-- ==== Sys2Proof/Word.lean ====
section
/-! DEFINITION. The word types of the 65C816: bytes, 16-bit words, 24-bit addresses, and the two operand widths (00_scope.md R10, R11). -/
namespace Sys2Proof

/-- One byte (00_scope.md R10). -/
abbrev Byte := BitVec 8

/-- A 16-bit value: A, X, Y, S, D and PC (10_state.md R40). -/
abbrev Word := BitVec 16

/-- A 24-bit address `bank:offset` (20_memory.md R80). -/
abbrev Addr := BitVec 24

/-- The operand width `w` of 00_scope.md R10 and R11: 8 or 16 bits. -/
inductive Width where
  | b8
  | b16
  deriving DecidableEq, Repr

end Sys2Proof
end

