-- ==== Sys2Proof/Machine/Bits.lean ====
section
/-! DEFINITION. Bit-field, sign-extension and byte-order helpers (00_scope.md R10, R11, R13; 20_memory.md R101). -/
namespace Sys2Proof

/-- `w` in bits. -/
def Width.bits : Width → Nat
  | .b8 => 8
  | .b16 => 16

/-- Bits 7:0 of a word: AL, XL, YL, SL, DL (00_scope.md R11). -/
def loByte (v : Word) : Byte := v.setWidth 8

/-- Bits 15:8 of a word: AH, XH, YH, SH, DH (00_scope.md R11). -/
def hiByte (v : Word) : Byte := v.extractLsb' 8 8

/-- The concatenation `hi:lo` (00_scope.md R10). -/
def mkWord (hi lo : Byte) : Word := hi ++ lo

/-- A byte zero-extended to a word. -/
def zext (v : Byte) : Word := v.setWidth 16

/-- `sext_16` (00_scope.md R10). -/
def sext (v : Byte) : Word := v.signExtend 16

/-- The 24-bit address `bank:offset` (20_memory.md R80). -/
def mkAddr (bank : Byte) (off : Word) : Addr := bank ++ off

/-- Bits 23:16 of an address. -/
def bankOf (a : Addr) : Byte := a.extractLsb' 16 8

/-- Bits 15:0 of an address. -/
def offOf (a : Addr) : Word := a.setWidth 16

/-- `v mod 2^w` (00_scope.md R10). -/
def Width.trunc (w : Width) (v : Word) : Word :=
  match w with
  | .b8 => zext (loByte v)
  | .b16 => v

/-- `v[w-1]` (00_scope.md R10). -/
def Width.msb (w : Width) (v : Word) : Bool := v.getLsbD (w.bits - 1)

/-- A write at width `w` of `new` over `old`: the low byte only when `w` is 8 (00_scope.md R11, `Aw <- v`). -/
def Width.merge (w : Width) (old new : Word) : Word :=
  match w with
  | .b8 => mkWord (hiByte old) (loByte new)
  | .b16 => new

end Sys2Proof
end

