-- ==== Sys2Proof/Syntax.lean ====
section
/-! DEFINITION. The instructions: one constructor for each of the 256 rows of spec/opcode_table.json (30_encoding.md R145). -/
namespace Sys2Proof

/-- The operand fields that follow an opcode byte (30_encoding.md R140, R144). -/
inductive Operand where
  /-- Formats without an operand byte. -/
  | none
  /-- One byte: a direct or stack offset, a `rel8`, a signature, the operand of REP, SEP and WDM. -/
  | byte (b : Byte)
  /-- Two bytes: an absolute offset or a `rel16`. -/
  | word (w : Word)
  /-- Three bytes: a long address. -/
  | long (a : Addr)
  /-- An immediate of width m (R141, second row). -/
  | immM (v : Word)
  /-- An immediate of width x (R141, third row). -/
  | immX (v : Word)
  /-- The two banks of a block move, the destination first in memory (R144). -/
  | banks (dbk sbk : Byte)
  deriving DecidableEq, Repr

/-- The instructions, in opcode order, those with an operand first. An immediate whose width follows P.M or P.X is held zero-extended to 16 bits. -/
inductive Instr where
  /-- 0x00 BRK #signature: R342. -/
  | brk (sig : Byte)
  /-- 0x01 ORA (dp,X): R261. -/
  | oraDpXInd (dp : Byte)
  /-- 0x02 COP #signature: R343. -/
  | cop (sig : Byte)
  /-- 0x03 ORA sr,S: R261. -/
  | oraSr (sr : Byte)
  /-- 0x04 TSB dp: R264. -/
  | tsbDp (dp : Byte)
  /-- 0x05 ORA dp: R261. -/
  | oraDp (dp : Byte)
  /-- 0x06 ASL dp: R266. -/
  | aslDp (dp : Byte)
  /-- 0x07 ORA [dp]: R261. -/
  | oraDpIndLong (dp : Byte)
  /-- 0x09 ORA #const (width m): R261. -/
  | oraImm (v : Word)
  /-- 0x0C TSB addr: R264. -/
  | tsbAbs (addr : Word)
  /-- 0x0D ORA addr: R261. -/
  | oraAbs (addr : Word)
  /-- 0x0E ASL addr: R266. -/
  | aslAbs (addr : Word)
  /-- 0x0F ORA long: R261. -/
  | oraLong (long : Addr)
  /-- 0x10 BPL rel8: R281. -/
  | bpl (rel : Byte)
  /-- 0x11 ORA (dp),Y: R261. -/
  | oraDpIndY (dp : Byte)
  /-- 0x12 ORA (dp): R261. -/
  | oraDpInd (dp : Byte)
  /-- 0x13 ORA (sr,S),Y: R261. -/
  | oraSrIndY (sr : Byte)
  /-- 0x14 TRB dp: R265. -/
  | trbDp (dp : Byte)
  /-- 0x15 ORA dp,X: R261. -/
  | oraDpX (dp : Byte)
  /-- 0x16 ASL dp,X: R266. -/
  | aslDpX (dp : Byte)
  /-- 0x17 ORA [dp],Y: R261. -/
  | oraDpIndLongY (dp : Byte)
  /-- 0x19 ORA addr,Y: R261. -/
  | oraAbsY (addr : Word)
  /-- 0x1C TRB addr: R265. -/
  | trbAbs (addr : Word)
  /-- 0x1D ORA addr,X: R261. -/
  | oraAbsX (addr : Word)
  /-- 0x1E ASL addr,X: R266. -/
  | aslAbsX (addr : Word)
  /-- 0x1F ORA long,X: R261. -/
  | oraLongX (long : Addr)
  /-- 0x20 JSR addr: R293. -/
  | jsrAbs (addr : Word)
  /-- 0x21 AND (dp,X): R260. -/
  | andDpXInd (dp : Byte)
  /-- 0x22 JSL long: R294. -/
  | jsl (long : Addr)
  /-- 0x23 AND sr,S: R260. -/
  | andSr (sr : Byte)
  /-- 0x24 BIT dp: R263. -/
  | bitDp (dp : Byte)
  /-- 0x25 AND dp: R260. -/
  | andDp (dp : Byte)
  /-- 0x26 ROL dp: R268. -/
  | rolDp (dp : Byte)
  /-- 0x27 AND [dp]: R260. -/
  | andDpIndLong (dp : Byte)
  /-- 0x29 AND #const (width m): R260. -/
  | andImm (v : Word)
  /-- 0x2C BIT addr: R263. -/
  | bitAbs (addr : Word)
  /-- 0x2D AND addr: R260. -/
  | andAbs (addr : Word)
  /-- 0x2E ROL addr: R268. -/
  | rolAbs (addr : Word)
  /-- 0x2F AND long: R260. -/
  | andLong (long : Addr)
  /-- 0x30 BMI rel8: R282. -/
  | bmi (rel : Byte)
  /-- 0x31 AND (dp),Y: R260. -/
  | andDpIndY (dp : Byte)
  /-- 0x32 AND (dp): R260. -/
  | andDpInd (dp : Byte)
  /-- 0x33 AND (sr,S),Y: R260. -/
  | andSrIndY (sr : Byte)
  /-- 0x34 BIT dp,X: R263. -/
  | bitDpX (dp : Byte)
  /-- 0x35 AND dp,X: R260. -/
  | andDpX (dp : Byte)
  /-- 0x36 ROL dp,X: R268. -/
  | rolDpX (dp : Byte)
  /-- 0x37 AND [dp],Y: R260. -/
  | andDpIndLongY (dp : Byte)
  /-- 0x39 AND addr,Y: R260. -/
  | andAbsY (addr : Word)
  /-- 0x3C BIT addr,X: R263. -/
  | bitAbsX (addr : Word)
  /-- 0x3D AND addr,X: R260. -/
  | andAbsX (addr : Word)
  /-- 0x3E ROL addr,X: R268. -/
  | rolAbsX (addr : Word)
  /-- 0x3F AND long,X: R260. -/
  | andLongX (long : Addr)
  /-- 0x41 EOR (dp,X): R262. -/
  | eorDpXInd (dp : Byte)
  /-- 0x42 WDM #const (8 bits): R341. -/
  | wdm (imm : Byte)
  /-- 0x43 EOR sr,S: R262. -/
  | eorSr (sr : Byte)
  /-- 0x44 MVP destination bank, source bank: R351. -/
  | mvp (dbk : Byte) (sbk : Byte)
  /-- 0x45 EOR dp: R262. -/
  | eorDp (dp : Byte)
  /-- 0x46 LSR dp: R267. -/
  | lsrDp (dp : Byte)
  /-- 0x47 EOR [dp]: R262. -/
  | eorDpIndLong (dp : Byte)
  /-- 0x49 EOR #const (width m): R262. -/
  | eorImm (v : Word)
  /-- 0x4C JMP addr: R291. -/
  | jmpAbs (addr : Word)
  /-- 0x4D EOR addr: R262. -/
  | eorAbs (addr : Word)
  /-- 0x4E LSR addr: R267. -/
  | lsrAbs (addr : Word)
  /-- 0x4F EOR long: R262. -/
  | eorLong (long : Addr)
  /-- 0x50 BVC rel8: R283. -/
  | bvc (rel : Byte)
  /-- 0x51 EOR (dp),Y: R262. -/
  | eorDpIndY (dp : Byte)
  /-- 0x52 EOR (dp): R262. -/
  | eorDpInd (dp : Byte)
  /-- 0x53 EOR (sr,S),Y: R262. -/
  | eorSrIndY (sr : Byte)
  /-- 0x54 MVN destination bank, source bank: R350. -/
  | mvn (dbk : Byte) (sbk : Byte)
  /-- 0x55 EOR dp,X: R262. -/
  | eorDpX (dp : Byte)
  /-- 0x56 LSR dp,X: R267. -/
  | lsrDpX (dp : Byte)
  /-- 0x57 EOR [dp],Y: R262. -/
  | eorDpIndLongY (dp : Byte)
  /-- 0x59 EOR addr,Y: R262. -/
  | eorAbsY (addr : Word)
  /-- 0x5C JML long: R292. -/
  | jmlLong (long : Addr)
  /-- 0x5D EOR addr,X: R262. -/
  | eorAbsX (addr : Word)
  /-- 0x5E LSR addr,X: R267. -/
  | lsrAbsX (addr : Word)
  /-- 0x5F EOR long,X: R262. -/
  | eorLongX (long : Addr)
  /-- 0x61 ADC (dp,X): R242. -/
  | adcDpXInd (dp : Byte)
  /-- 0x62 PER rel16: R326. -/
  | per (rel : Word)
  /-- 0x63 ADC sr,S: R242. -/
  | adcSr (sr : Byte)
  /-- 0x64 STZ dp: R206. -/
  | stzDp (dp : Byte)
  /-- 0x65 ADC dp: R242. -/
  | adcDp (dp : Byte)
  /-- 0x66 ROR dp: R269. -/
  | rorDp (dp : Byte)
  /-- 0x67 ADC [dp]: R242. -/
  | adcDpIndLong (dp : Byte)
  /-- 0x69 ADC #const (width m): R242. -/
  | adcImm (v : Word)
  /-- 0x6C JMP (addr): R291. -/
  | jmpAbsInd (addr : Word)
  /-- 0x6D ADC addr: R242. -/
  | adcAbs (addr : Word)
  /-- 0x6E ROR addr: R269. -/
  | rorAbs (addr : Word)
  /-- 0x6F ADC long: R242. -/
  | adcLong (long : Addr)
  /-- 0x70 BVS rel8: R284. -/
  | bvs (rel : Byte)
  /-- 0x71 ADC (dp),Y: R242. -/
  | adcDpIndY (dp : Byte)
  /-- 0x72 ADC (dp): R242. -/
  | adcDpInd (dp : Byte)
  /-- 0x73 ADC (sr,S),Y: R242. -/
  | adcSrIndY (sr : Byte)
  /-- 0x74 STZ dp,X: R206. -/
  | stzDpX (dp : Byte)
  /-- 0x75 ADC dp,X: R242. -/
  | adcDpX (dp : Byte)
  /-- 0x76 ROR dp,X: R269. -/
  | rorDpX (dp : Byte)
  /-- 0x77 ADC [dp],Y: R242. -/
  | adcDpIndLongY (dp : Byte)
  /-- 0x79 ADC addr,Y: R242. -/
  | adcAbsY (addr : Word)
  /-- 0x7C JMP (addr,X): R291. -/
  | jmpAbsXInd (addr : Word)
  /-- 0x7D ADC addr,X: R242. -/
  | adcAbsX (addr : Word)
  /-- 0x7E ROR addr,X: R269. -/
  | rorAbsX (addr : Word)
  /-- 0x7F ADC long,X: R242. -/
  | adcLongX (long : Addr)
  /-- 0x80 BRA rel8: R289. -/
  | bra (rel : Byte)
  /-- 0x81 STA (dp,X): R203. -/
  | staDpXInd (dp : Byte)
  /-- 0x82 BRL rel16: R290. -/
  | brl (rel : Word)
  /-- 0x83 STA sr,S: R203. -/
  | staSr (sr : Byte)
  /-- 0x84 STY dp: R205. -/
  | styDp (dp : Byte)
  /-- 0x85 STA dp: R203. -/
  | staDp (dp : Byte)
  /-- 0x86 STX dp: R204. -/
  | stxDp (dp : Byte)
  /-- 0x87 STA [dp]: R203. -/
  | staDpIndLong (dp : Byte)
  /-- 0x89 BIT #const (width m): R263. -/
  | bitImm (v : Word)
  /-- 0x8C STY addr: R205. -/
  | styAbs (addr : Word)
  /-- 0x8D STA addr: R203. -/
  | staAbs (addr : Word)
  /-- 0x8E STX addr: R204. -/
  | stxAbs (addr : Word)
  /-- 0x8F STA long: R203. -/
  | staLong (long : Addr)
  /-- 0x90 BCC rel8: R285. -/
  | bcc (rel : Byte)
  /-- 0x91 STA (dp),Y: R203. -/
  | staDpIndY (dp : Byte)
  /-- 0x92 STA (dp): R203. -/
  | staDpInd (dp : Byte)
  /-- 0x93 STA (sr,S),Y: R203. -/
  | staSrIndY (sr : Byte)
  /-- 0x94 STY dp,X: R205. -/
  | styDpX (dp : Byte)
  /-- 0x95 STA dp,X: R203. -/
  | staDpX (dp : Byte)
  /-- 0x96 STX dp,Y: R204. -/
  | stxDpY (dp : Byte)
  /-- 0x97 STA [dp],Y: R203. -/
  | staDpIndLongY (dp : Byte)
  /-- 0x99 STA addr,Y: R203. -/
  | staAbsY (addr : Word)
  /-- 0x9C STZ addr: R206. -/
  | stzAbs (addr : Word)
  /-- 0x9D STA addr,X: R203. -/
  | staAbsX (addr : Word)
  /-- 0x9E STZ addr,X: R206. -/
  | stzAbsX (addr : Word)
  /-- 0x9F STA long,X: R203. -/
  | staLongX (long : Addr)
  /-- 0xA0 LDY #const (width x): R202. -/
  | ldyImm (v : Word)
  /-- 0xA1 LDA (dp,X): R200. -/
  | ldaDpXInd (dp : Byte)
  /-- 0xA2 LDX #const (width x): R201. -/
  | ldxImm (v : Word)
  /-- 0xA3 LDA sr,S: R200. -/
  | ldaSr (sr : Byte)
  /-- 0xA4 LDY dp: R202. -/
  | ldyDp (dp : Byte)
  /-- 0xA5 LDA dp: R200. -/
  | ldaDp (dp : Byte)
  /-- 0xA6 LDX dp: R201. -/
  | ldxDp (dp : Byte)
  /-- 0xA7 LDA [dp]: R200. -/
  | ldaDpIndLong (dp : Byte)
  /-- 0xA9 LDA #const (width m): R200. -/
  | ldaImm (v : Word)
  /-- 0xAC LDY addr: R202. -/
  | ldyAbs (addr : Word)
  /-- 0xAD LDA addr: R200. -/
  | ldaAbs (addr : Word)
  /-- 0xAE LDX addr: R201. -/
  | ldxAbs (addr : Word)
  /-- 0xAF LDA long: R200. -/
  | ldaLong (long : Addr)
  /-- 0xB0 BCS rel8: R286. -/
  | bcs (rel : Byte)
  /-- 0xB1 LDA (dp),Y: R200. -/
  | ldaDpIndY (dp : Byte)
  /-- 0xB2 LDA (dp): R200. -/
  | ldaDpInd (dp : Byte)
  /-- 0xB3 LDA (sr,S),Y: R200. -/
  | ldaSrIndY (sr : Byte)
  /-- 0xB4 LDY dp,X: R202. -/
  | ldyDpX (dp : Byte)
  /-- 0xB5 LDA dp,X: R200. -/
  | ldaDpX (dp : Byte)
  /-- 0xB6 LDX dp,Y: R201. -/
  | ldxDpY (dp : Byte)
  /-- 0xB7 LDA [dp],Y: R200. -/
  | ldaDpIndLongY (dp : Byte)
  /-- 0xB9 LDA addr,Y: R200. -/
  | ldaAbsY (addr : Word)
  /-- 0xBC LDY addr,X: R202. -/
  | ldyAbsX (addr : Word)
  /-- 0xBD LDA addr,X: R200. -/
  | ldaAbsX (addr : Word)
  /-- 0xBE LDX addr,Y: R201. -/
  | ldxAbsY (addr : Word)
  /-- 0xBF LDA long,X: R200. -/
  | ldaLongX (long : Addr)
  /-- 0xC0 CPY #const (width x): R247. -/
  | cpyImm (v : Word)
  /-- 0xC1 CMP (dp,X): R245. -/
  | cmpDpXInd (dp : Byte)
  /-- 0xC2 REP #const (8 bits): R337. -/
  | rep (imm : Byte)
  /-- 0xC3 CMP sr,S: R245. -/
  | cmpSr (sr : Byte)
  /-- 0xC4 CPY dp: R247. -/
  | cpyDp (dp : Byte)
  /-- 0xC5 CMP dp: R245. -/
  | cmpDp (dp : Byte)
  /-- 0xC6 DEC dp: R251. -/
  | decDp (dp : Byte)
  /-- 0xC7 CMP [dp]: R245. -/
  | cmpDpIndLong (dp : Byte)
  /-- 0xC9 CMP #const (width m): R245. -/
  | cmpImm (v : Word)
  /-- 0xCC CPY addr: R247. -/
  | cpyAbs (addr : Word)
  /-- 0xCD CMP addr: R245. -/
  | cmpAbs (addr : Word)
  /-- 0xCE DEC addr: R251. -/
  | decAbs (addr : Word)
  /-- 0xCF CMP long: R245. -/
  | cmpLong (long : Addr)
  /-- 0xD0 BNE rel8: R287. -/
  | bne (rel : Byte)
  /-- 0xD1 CMP (dp),Y: R245. -/
  | cmpDpIndY (dp : Byte)
  /-- 0xD2 CMP (dp): R245. -/
  | cmpDpInd (dp : Byte)
  /-- 0xD3 CMP (sr,S),Y: R245. -/
  | cmpSrIndY (sr : Byte)
  /-- 0xD4 PEI (dp): R325. -/
  | pei (dp : Byte)
  /-- 0xD5 CMP dp,X: R245. -/
  | cmpDpX (dp : Byte)
  /-- 0xD6 DEC dp,X: R251. -/
  | decDpX (dp : Byte)
  /-- 0xD7 CMP [dp],Y: R245. -/
  | cmpDpIndLongY (dp : Byte)
  /-- 0xD9 CMP addr,Y: R245. -/
  | cmpAbsY (addr : Word)
  /-- 0xDC JML [addr]: R292. -/
  | jmlAbsIndLong (addr : Word)
  /-- 0xDD CMP addr,X: R245. -/
  | cmpAbsX (addr : Word)
  /-- 0xDE DEC addr,X: R251. -/
  | decAbsX (addr : Word)
  /-- 0xDF CMP long,X: R245. -/
  | cmpLongX (long : Addr)
  /-- 0xE0 CPX #const (width x): R246. -/
  | cpxImm (v : Word)
  /-- 0xE1 SBC (dp,X): R243. -/
  | sbcDpXInd (dp : Byte)
  /-- 0xE2 SEP #const (8 bits): R338. -/
  | sep (imm : Byte)
  /-- 0xE3 SBC sr,S: R243. -/
  | sbcSr (sr : Byte)
  /-- 0xE4 CPX dp: R246. -/
  | cpxDp (dp : Byte)
  /-- 0xE5 SBC dp: R243. -/
  | sbcDp (dp : Byte)
  /-- 0xE6 INC dp: R248. -/
  | incDp (dp : Byte)
  /-- 0xE7 SBC [dp]: R243. -/
  | sbcDpIndLong (dp : Byte)
  /-- 0xE9 SBC #const (width m): R243. -/
  | sbcImm (v : Word)
  /-- 0xEC CPX addr: R246. -/
  | cpxAbs (addr : Word)
  /-- 0xED SBC addr: R243. -/
  | sbcAbs (addr : Word)
  /-- 0xEE INC addr: R248. -/
  | incAbs (addr : Word)
  /-- 0xEF SBC long: R243. -/
  | sbcLong (long : Addr)
  /-- 0xF0 BEQ rel8: R288. -/
  | beq (rel : Byte)
  /-- 0xF1 SBC (dp),Y: R243. -/
  | sbcDpIndY (dp : Byte)
  /-- 0xF2 SBC (dp): R243. -/
  | sbcDpInd (dp : Byte)
  /-- 0xF3 SBC (sr,S),Y: R243. -/
  | sbcSrIndY (sr : Byte)
  /-- 0xF4 PEA addr: R324. -/
  | pea (addr : Word)
  /-- 0xF5 SBC dp,X: R243. -/
  | sbcDpX (dp : Byte)
  /-- 0xF6 INC dp,X: R248. -/
  | incDpX (dp : Byte)
  /-- 0xF7 SBC [dp],Y: R243. -/
  | sbcDpIndLongY (dp : Byte)
  /-- 0xF9 SBC addr,Y: R243. -/
  | sbcAbsY (addr : Word)
  /-- 0xFC JSR (addr,X): R293. -/
  | jsrAbsXInd (addr : Word)
  /-- 0xFD SBC addr,X: R243. -/
  | sbcAbsX (addr : Word)
  /-- 0xFE INC addr,X: R248. -/
  | incAbsX (addr : Word)
  /-- 0xFF SBC long,X: R243. -/
  | sbcLongX (long : Addr)
  /-- 0x08 PHP: R314. -/
  | php
  /-- 0x0A ASL A: R266. -/
  | aslAcc
  /-- 0x0B PHD: R316. -/
  | phd
  /-- 0x18 CLC: R330. -/
  | clc
  /-- 0x1A INC A: R248. -/
  | incAcc
  /-- 0x1B TCS: R228. -/
  | tcs
  /-- 0x28 PLP: R321. -/
  | plp
  /-- 0x2A ROL A: R268. -/
  | rolAcc
  /-- 0x2B PLD: R323. -/
  | pld
  /-- 0x38 SEC: R334. -/
  | sec
  /-- 0x3A DEC A: R251. -/
  | decAcc
  /-- 0x3B TSC: R229. -/
  | tsc
  /-- 0x40 RTI: R344. -/
  | rti
  /-- 0x48 PHA: R311. -/
  | pha
  /-- 0x4A LSR A: R267. -/
  | lsrAcc
  /-- 0x4B PHK: R317. -/
  | phk
  /-- 0x58 CLI: R332. -/
  | cli
  /-- 0x5A PHY: R313. -/
  | phy
  /-- 0x5B TCD: R230. -/
  | tcd
  /-- 0x60 RTS: R295. -/
  | rts
  /-- 0x68 PLA: R318. -/
  | pla
  /-- 0x6A ROR A: R269. -/
  | rorAcc
  /-- 0x6B RTL: R296. -/
  | rtl
  /-- 0x78 SEI: R336. -/
  | sei
  /-- 0x7A PLY: R320. -/
  | ply
  /-- 0x7B TDC: R231. -/
  | tdc
  /-- 0x88 DEY: R253. -/
  | dey
  /-- 0x8A TXA: R222. -/
  | txa
  /-- 0x8B PHB: R315. -/
  | phb
  /-- 0x98 TYA: R223. -/
  | tya
  /-- 0x9A TXS: R227. -/
  | txs
  /-- 0x9B TXY: R224. -/
  | txy
  /-- 0xA8 TAY: R221. -/
  | tay
  /-- 0xAA TAX: R220. -/
  | tax
  /-- 0xAB PLB: R322. -/
  | plb
  /-- 0xB8 CLV: R333. -/
  | clv
  /-- 0xBA TSX: R226. -/
  | tsx
  /-- 0xBB TYX: R225. -/
  | tyx
  /-- 0xC8 INY: R250. -/
  | iny
  /-- 0xCA DEX: R252. -/
  | dex
  /-- 0xCB WAI: R345. -/
  | wai
  /-- 0xD8 CLD: R331. -/
  | cld
  /-- 0xDA PHX: R312. -/
  | phx
  /-- 0xDB STP: R346. -/
  | stp
  /-- 0xE8 INX: R249. -/
  | inx
  /-- 0xEA NOP: R340. -/
  | nop
  /-- 0xEB XBA: R232. -/
  | xba
  /-- 0xF8 SED: R335. -/
  | sed
  /-- 0xFA PLX: R319. -/
  | plx
  /-- 0xFB XCE: R339. -/
  | xce
  deriving DecidableEq, Repr

/-- The operand fields an instruction carries (30_encoding.md R140). -/
def Instr.operand : Instr → Operand
  | .brk sig => .byte sig
  | .oraDpXInd dp => .byte dp
  | .cop sig => .byte sig
  | .oraSr sr => .byte sr
  | .tsbDp dp => .byte dp
  | .oraDp dp => .byte dp
  | .aslDp dp => .byte dp
  | .oraDpIndLong dp => .byte dp
  | .php => .none
  | .oraImm v => .immM v
  | .aslAcc => .none
  | .phd => .none
  | .tsbAbs addr => .word addr
  | .oraAbs addr => .word addr
  | .aslAbs addr => .word addr
  | .oraLong long => .long long
  | .bpl rel => .byte rel
  | .oraDpIndY dp => .byte dp
  | .oraDpInd dp => .byte dp
  | .oraSrIndY sr => .byte sr
  | .trbDp dp => .byte dp
  | .oraDpX dp => .byte dp
  | .aslDpX dp => .byte dp
  | .oraDpIndLongY dp => .byte dp
  | .clc => .none
  | .oraAbsY addr => .word addr
  | .incAcc => .none
  | .tcs => .none
  | .trbAbs addr => .word addr
  | .oraAbsX addr => .word addr
  | .aslAbsX addr => .word addr
  | .oraLongX long => .long long
  | .jsrAbs addr => .word addr
  | .andDpXInd dp => .byte dp
  | .jsl long => .long long
  | .andSr sr => .byte sr
  | .bitDp dp => .byte dp
  | .andDp dp => .byte dp
  | .rolDp dp => .byte dp
  | .andDpIndLong dp => .byte dp
  | .plp => .none
  | .andImm v => .immM v
  | .rolAcc => .none
  | .pld => .none
  | .bitAbs addr => .word addr
  | .andAbs addr => .word addr
  | .rolAbs addr => .word addr
  | .andLong long => .long long
  | .bmi rel => .byte rel
  | .andDpIndY dp => .byte dp
  | .andDpInd dp => .byte dp
  | .andSrIndY sr => .byte sr
  | .bitDpX dp => .byte dp
  | .andDpX dp => .byte dp
  | .rolDpX dp => .byte dp
  | .andDpIndLongY dp => .byte dp
  | .sec => .none
  | .andAbsY addr => .word addr
  | .decAcc => .none
  | .tsc => .none
  | .bitAbsX addr => .word addr
  | .andAbsX addr => .word addr
  | .rolAbsX addr => .word addr
  | .andLongX long => .long long
  | .rti => .none
  | .eorDpXInd dp => .byte dp
  | .wdm imm => .byte imm
  | .eorSr sr => .byte sr
  | .mvp dbk sbk => .banks dbk sbk
  | .eorDp dp => .byte dp
  | .lsrDp dp => .byte dp
  | .eorDpIndLong dp => .byte dp
  | .pha => .none
  | .eorImm v => .immM v
  | .lsrAcc => .none
  | .phk => .none
  | .jmpAbs addr => .word addr
  | .eorAbs addr => .word addr
  | .lsrAbs addr => .word addr
  | .eorLong long => .long long
  | .bvc rel => .byte rel
  | .eorDpIndY dp => .byte dp
  | .eorDpInd dp => .byte dp
  | .eorSrIndY sr => .byte sr
  | .mvn dbk sbk => .banks dbk sbk
  | .eorDpX dp => .byte dp
  | .lsrDpX dp => .byte dp
  | .eorDpIndLongY dp => .byte dp
  | .cli => .none
  | .eorAbsY addr => .word addr
  | .phy => .none
  | .tcd => .none
  | .jmlLong long => .long long
  | .eorAbsX addr => .word addr
  | .lsrAbsX addr => .word addr
  | .eorLongX long => .long long
  | .rts => .none
  | .adcDpXInd dp => .byte dp
  | .per rel => .word rel
  | .adcSr sr => .byte sr
  | .stzDp dp => .byte dp
  | .adcDp dp => .byte dp
  | .rorDp dp => .byte dp
  | .adcDpIndLong dp => .byte dp
  | .pla => .none
  | .adcImm v => .immM v
  | .rorAcc => .none
  | .rtl => .none
  | .jmpAbsInd addr => .word addr
  | .adcAbs addr => .word addr
  | .rorAbs addr => .word addr
  | .adcLong long => .long long
  | .bvs rel => .byte rel
  | .adcDpIndY dp => .byte dp
  | .adcDpInd dp => .byte dp
  | .adcSrIndY sr => .byte sr
  | .stzDpX dp => .byte dp
  | .adcDpX dp => .byte dp
  | .rorDpX dp => .byte dp
  | .adcDpIndLongY dp => .byte dp
  | .sei => .none
  | .adcAbsY addr => .word addr
  | .ply => .none
  | .tdc => .none
  | .jmpAbsXInd addr => .word addr
  | .adcAbsX addr => .word addr
  | .rorAbsX addr => .word addr
  | .adcLongX long => .long long
  | .bra rel => .byte rel
  | .staDpXInd dp => .byte dp
  | .brl rel => .word rel
  | .staSr sr => .byte sr
  | .styDp dp => .byte dp
  | .staDp dp => .byte dp
  | .stxDp dp => .byte dp
  | .staDpIndLong dp => .byte dp
  | .dey => .none
  | .bitImm v => .immM v
  | .txa => .none
  | .phb => .none
  | .styAbs addr => .word addr
  | .staAbs addr => .word addr
  | .stxAbs addr => .word addr
  | .staLong long => .long long
  | .bcc rel => .byte rel
  | .staDpIndY dp => .byte dp
  | .staDpInd dp => .byte dp
  | .staSrIndY sr => .byte sr
  | .styDpX dp => .byte dp
  | .staDpX dp => .byte dp
  | .stxDpY dp => .byte dp
  | .staDpIndLongY dp => .byte dp
  | .tya => .none
  | .staAbsY addr => .word addr
  | .txs => .none
  | .txy => .none
  | .stzAbs addr => .word addr
  | .staAbsX addr => .word addr
  | .stzAbsX addr => .word addr
  | .staLongX long => .long long
  | .ldyImm v => .immX v
  | .ldaDpXInd dp => .byte dp
  | .ldxImm v => .immX v
  | .ldaSr sr => .byte sr
  | .ldyDp dp => .byte dp
  | .ldaDp dp => .byte dp
  | .ldxDp dp => .byte dp
  | .ldaDpIndLong dp => .byte dp
  | .tay => .none
  | .ldaImm v => .immM v
  | .tax => .none
  | .plb => .none
  | .ldyAbs addr => .word addr
  | .ldaAbs addr => .word addr
  | .ldxAbs addr => .word addr
  | .ldaLong long => .long long
  | .bcs rel => .byte rel
  | .ldaDpIndY dp => .byte dp
  | .ldaDpInd dp => .byte dp
  | .ldaSrIndY sr => .byte sr
  | .ldyDpX dp => .byte dp
  | .ldaDpX dp => .byte dp
  | .ldxDpY dp => .byte dp
  | .ldaDpIndLongY dp => .byte dp
  | .clv => .none
  | .ldaAbsY addr => .word addr
  | .tsx => .none
  | .tyx => .none
  | .ldyAbsX addr => .word addr
  | .ldaAbsX addr => .word addr
  | .ldxAbsY addr => .word addr
  | .ldaLongX long => .long long
  | .cpyImm v => .immX v
  | .cmpDpXInd dp => .byte dp
  | .rep imm => .byte imm
  | .cmpSr sr => .byte sr
  | .cpyDp dp => .byte dp
  | .cmpDp dp => .byte dp
  | .decDp dp => .byte dp
  | .cmpDpIndLong dp => .byte dp
  | .iny => .none
  | .cmpImm v => .immM v
  | .dex => .none
  | .wai => .none
  | .cpyAbs addr => .word addr
  | .cmpAbs addr => .word addr
  | .decAbs addr => .word addr
  | .cmpLong long => .long long
  | .bne rel => .byte rel
  | .cmpDpIndY dp => .byte dp
  | .cmpDpInd dp => .byte dp
  | .cmpSrIndY sr => .byte sr
  | .pei dp => .byte dp
  | .cmpDpX dp => .byte dp
  | .decDpX dp => .byte dp
  | .cmpDpIndLongY dp => .byte dp
  | .cld => .none
  | .cmpAbsY addr => .word addr
  | .phx => .none
  | .stp => .none
  | .jmlAbsIndLong addr => .word addr
  | .cmpAbsX addr => .word addr
  | .decAbsX addr => .word addr
  | .cmpLongX long => .long long
  | .cpxImm v => .immX v
  | .sbcDpXInd dp => .byte dp
  | .sep imm => .byte imm
  | .sbcSr sr => .byte sr
  | .cpxDp dp => .byte dp
  | .sbcDp dp => .byte dp
  | .incDp dp => .byte dp
  | .sbcDpIndLong dp => .byte dp
  | .inx => .none
  | .sbcImm v => .immM v
  | .nop => .none
  | .xba => .none
  | .cpxAbs addr => .word addr
  | .sbcAbs addr => .word addr
  | .incAbs addr => .word addr
  | .sbcLong long => .long long
  | .beq rel => .byte rel
  | .sbcDpIndY dp => .byte dp
  | .sbcDpInd dp => .byte dp
  | .sbcSrIndY sr => .byte sr
  | .pea addr => .word addr
  | .sbcDpX dp => .byte dp
  | .incDpX dp => .byte dp
  | .sbcDpIndLongY dp => .byte dp
  | .sed => .none
  | .sbcAbsY addr => .word addr
  | .plx => .none
  | .xce => .none
  | .jsrAbsXInd addr => .word addr
  | .sbcAbsX addr => .word addr
  | .incAbsX addr => .word addr
  | .sbcLongX long => .long long

/-- The mnemonic of an instruction, as spec/opcode_table.json spells it. -/
def Instr.mnemonic : Instr → String
  | .brk _ => "BRK"
  | .oraDpXInd _ => "ORA"
  | .cop _ => "COP"
  | .oraSr _ => "ORA"
  | .tsbDp _ => "TSB"
  | .oraDp _ => "ORA"
  | .aslDp _ => "ASL"
  | .oraDpIndLong _ => "ORA"
  | .php => "PHP"
  | .oraImm _ => "ORA"
  | .aslAcc => "ASL"
  | .phd => "PHD"
  | .tsbAbs _ => "TSB"
  | .oraAbs _ => "ORA"
  | .aslAbs _ => "ASL"
  | .oraLong _ => "ORA"
  | .bpl _ => "BPL"
  | .oraDpIndY _ => "ORA"
  | .oraDpInd _ => "ORA"
  | .oraSrIndY _ => "ORA"
  | .trbDp _ => "TRB"
  | .oraDpX _ => "ORA"
  | .aslDpX _ => "ASL"
  | .oraDpIndLongY _ => "ORA"
  | .clc => "CLC"
  | .oraAbsY _ => "ORA"
  | .incAcc => "INC"
  | .tcs => "TCS"
  | .trbAbs _ => "TRB"
  | .oraAbsX _ => "ORA"
  | .aslAbsX _ => "ASL"
  | .oraLongX _ => "ORA"
  | .jsrAbs _ => "JSR"
  | .andDpXInd _ => "AND"
  | .jsl _ => "JSL"
  | .andSr _ => "AND"
  | .bitDp _ => "BIT"
  | .andDp _ => "AND"
  | .rolDp _ => "ROL"
  | .andDpIndLong _ => "AND"
  | .plp => "PLP"
  | .andImm _ => "AND"
  | .rolAcc => "ROL"
  | .pld => "PLD"
  | .bitAbs _ => "BIT"
  | .andAbs _ => "AND"
  | .rolAbs _ => "ROL"
  | .andLong _ => "AND"
  | .bmi _ => "BMI"
  | .andDpIndY _ => "AND"
  | .andDpInd _ => "AND"
  | .andSrIndY _ => "AND"
  | .bitDpX _ => "BIT"
  | .andDpX _ => "AND"
  | .rolDpX _ => "ROL"
  | .andDpIndLongY _ => "AND"
  | .sec => "SEC"
  | .andAbsY _ => "AND"
  | .decAcc => "DEC"
  | .tsc => "TSC"
  | .bitAbsX _ => "BIT"
  | .andAbsX _ => "AND"
  | .rolAbsX _ => "ROL"
  | .andLongX _ => "AND"
  | .rti => "RTI"
  | .eorDpXInd _ => "EOR"
  | .wdm _ => "WDM"
  | .eorSr _ => "EOR"
  | .mvp _ _ => "MVP"
  | .eorDp _ => "EOR"
  | .lsrDp _ => "LSR"
  | .eorDpIndLong _ => "EOR"
  | .pha => "PHA"
  | .eorImm _ => "EOR"
  | .lsrAcc => "LSR"
  | .phk => "PHK"
  | .jmpAbs _ => "JMP"
  | .eorAbs _ => "EOR"
  | .lsrAbs _ => "LSR"
  | .eorLong _ => "EOR"
  | .bvc _ => "BVC"
  | .eorDpIndY _ => "EOR"
  | .eorDpInd _ => "EOR"
  | .eorSrIndY _ => "EOR"
  | .mvn _ _ => "MVN"
  | .eorDpX _ => "EOR"
  | .lsrDpX _ => "LSR"
  | .eorDpIndLongY _ => "EOR"
  | .cli => "CLI"
  | .eorAbsY _ => "EOR"
  | .phy => "PHY"
  | .tcd => "TCD"
  | .jmlLong _ => "JML"
  | .eorAbsX _ => "EOR"
  | .lsrAbsX _ => "LSR"
  | .eorLongX _ => "EOR"
  | .rts => "RTS"
  | .adcDpXInd _ => "ADC"
  | .per _ => "PER"
  | .adcSr _ => "ADC"
  | .stzDp _ => "STZ"
  | .adcDp _ => "ADC"
  | .rorDp _ => "ROR"
  | .adcDpIndLong _ => "ADC"
  | .pla => "PLA"
  | .adcImm _ => "ADC"
  | .rorAcc => "ROR"
  | .rtl => "RTL"
  | .jmpAbsInd _ => "JMP"
  | .adcAbs _ => "ADC"
  | .rorAbs _ => "ROR"
  | .adcLong _ => "ADC"
  | .bvs _ => "BVS"
  | .adcDpIndY _ => "ADC"
  | .adcDpInd _ => "ADC"
  | .adcSrIndY _ => "ADC"
  | .stzDpX _ => "STZ"
  | .adcDpX _ => "ADC"
  | .rorDpX _ => "ROR"
  | .adcDpIndLongY _ => "ADC"
  | .sei => "SEI"
  | .adcAbsY _ => "ADC"
  | .ply => "PLY"
  | .tdc => "TDC"
  | .jmpAbsXInd _ => "JMP"
  | .adcAbsX _ => "ADC"
  | .rorAbsX _ => "ROR"
  | .adcLongX _ => "ADC"
  | .bra _ => "BRA"
  | .staDpXInd _ => "STA"
  | .brl _ => "BRL"
  | .staSr _ => "STA"
  | .styDp _ => "STY"
  | .staDp _ => "STA"
  | .stxDp _ => "STX"
  | .staDpIndLong _ => "STA"
  | .dey => "DEY"
  | .bitImm _ => "BIT"
  | .txa => "TXA"
  | .phb => "PHB"
  | .styAbs _ => "STY"
  | .staAbs _ => "STA"
  | .stxAbs _ => "STX"
  | .staLong _ => "STA"
  | .bcc _ => "BCC"
  | .staDpIndY _ => "STA"
  | .staDpInd _ => "STA"
  | .staSrIndY _ => "STA"
  | .styDpX _ => "STY"
  | .staDpX _ => "STA"
  | .stxDpY _ => "STX"
  | .staDpIndLongY _ => "STA"
  | .tya => "TYA"
  | .staAbsY _ => "STA"
  | .txs => "TXS"
  | .txy => "TXY"
  | .stzAbs _ => "STZ"
  | .staAbsX _ => "STA"
  | .stzAbsX _ => "STZ"
  | .staLongX _ => "STA"
  | .ldyImm _ => "LDY"
  | .ldaDpXInd _ => "LDA"
  | .ldxImm _ => "LDX"
  | .ldaSr _ => "LDA"
  | .ldyDp _ => "LDY"
  | .ldaDp _ => "LDA"
  | .ldxDp _ => "LDX"
  | .ldaDpIndLong _ => "LDA"
  | .tay => "TAY"
  | .ldaImm _ => "LDA"
  | .tax => "TAX"
  | .plb => "PLB"
  | .ldyAbs _ => "LDY"
  | .ldaAbs _ => "LDA"
  | .ldxAbs _ => "LDX"
  | .ldaLong _ => "LDA"
  | .bcs _ => "BCS"
  | .ldaDpIndY _ => "LDA"
  | .ldaDpInd _ => "LDA"
  | .ldaSrIndY _ => "LDA"
  | .ldyDpX _ => "LDY"
  | .ldaDpX _ => "LDA"
  | .ldxDpY _ => "LDX"
  | .ldaDpIndLongY _ => "LDA"
  | .clv => "CLV"
  | .ldaAbsY _ => "LDA"
  | .tsx => "TSX"
  | .tyx => "TYX"
  | .ldyAbsX _ => "LDY"
  | .ldaAbsX _ => "LDA"
  | .ldxAbsY _ => "LDX"
  | .ldaLongX _ => "LDA"
  | .cpyImm _ => "CPY"
  | .cmpDpXInd _ => "CMP"
  | .rep _ => "REP"
  | .cmpSr _ => "CMP"
  | .cpyDp _ => "CPY"
  | .cmpDp _ => "CMP"
  | .decDp _ => "DEC"
  | .cmpDpIndLong _ => "CMP"
  | .iny => "INY"
  | .cmpImm _ => "CMP"
  | .dex => "DEX"
  | .wai => "WAI"
  | .cpyAbs _ => "CPY"
  | .cmpAbs _ => "CMP"
  | .decAbs _ => "DEC"
  | .cmpLong _ => "CMP"
  | .bne _ => "BNE"
  | .cmpDpIndY _ => "CMP"
  | .cmpDpInd _ => "CMP"
  | .cmpSrIndY _ => "CMP"
  | .pei _ => "PEI"
  | .cmpDpX _ => "CMP"
  | .decDpX _ => "DEC"
  | .cmpDpIndLongY _ => "CMP"
  | .cld => "CLD"
  | .cmpAbsY _ => "CMP"
  | .phx => "PHX"
  | .stp => "STP"
  | .jmlAbsIndLong _ => "JML"
  | .cmpAbsX _ => "CMP"
  | .decAbsX _ => "DEC"
  | .cmpLongX _ => "CMP"
  | .cpxImm _ => "CPX"
  | .sbcDpXInd _ => "SBC"
  | .sep _ => "SEP"
  | .sbcSr _ => "SBC"
  | .cpxDp _ => "CPX"
  | .sbcDp _ => "SBC"
  | .incDp _ => "INC"
  | .sbcDpIndLong _ => "SBC"
  | .inx => "INX"
  | .sbcImm _ => "SBC"
  | .nop => "NOP"
  | .xba => "XBA"
  | .cpxAbs _ => "CPX"
  | .sbcAbs _ => "SBC"
  | .incAbs _ => "INC"
  | .sbcLong _ => "SBC"
  | .beq _ => "BEQ"
  | .sbcDpIndY _ => "SBC"
  | .sbcDpInd _ => "SBC"
  | .sbcSrIndY _ => "SBC"
  | .pea _ => "PEA"
  | .sbcDpX _ => "SBC"
  | .incDpX _ => "INC"
  | .sbcDpIndLongY _ => "SBC"
  | .sed => "SED"
  | .sbcAbsY _ => "SBC"
  | .plx => "PLX"
  | .xce => "XCE"
  | .jsrAbsXInd _ => "JSR"
  | .sbcAbsX _ => "SBC"
  | .incAbsX _ => "INC"
  | .sbcLongX _ => "SBC"

end Sys2Proof
end

