-- ==== Sys2Proof/WellFormed.lean ====
section
/-! DEFINITION. Well-formed instructions under given widths: an immediate fits the width it is encoded in (30_encoding.md R141, R172). -/
namespace Sys2Proof

/-- An operand fits its encoding when P.M and P.X give the widths `m` and `x`: only an immediate of 8 bits can fail. -/
def Operand.wellFormed (m x : Width) : Operand → Bool
  | .none => true
  | .byte _ => true
  | .word _ => true
  | .long _ => true
  | .immM v => m.trunc v == v
  | .immX v => x.trunc v == v
  | .banks _ _ => true

/-- `i` can be written down as bytes under the widths `m` and `x` (30_encoding.md R141, R142). -/
def Instr.wellFormed (m x : Width) (i : Instr) : Bool := i.operand.wellFormed m x

end Sys2Proof
end

