-- ==== Sys2Proof/Decode.lean ====
section
/-! DEFINITION. The decoder, total on any bytes, and the encoder (30_encoding.md R140 to R147). -/
namespace Sys2Proof

/-- Why a list of bytes is no instruction. Every opcode is defined (30_encoding.md R146), so bytes can only be missing. -/
inductive DecodeError where
  /-- There is no opcode byte. -/
  | noOpcode
  /-- The opcode's operand bytes are not all there. -/
  | truncated (opcode : Byte)
  deriving DecidableEq, Repr

/-- One cell of the opcode map: the format of 30_encoding.md R140 and the instruction it makes of its operand fields. -/
inductive Row where
  | implied (i : Instr)
  | op8 (f : Byte → Instr)
  | op16 (f : Word → Instr)
  | op24 (f : Addr → Instr)
  | immM (f : Word → Instr)
  | immX (f : Word → Instr)
  | banks (f : Byte → Byte → Instr)

/-- How many bytes an immediate of a width has (30_encoding.md R141). -/
def Width.bytes : Width → Nat
  | .b8 => 1
  | .b16 => 2

/-- The operand bytes after the opcode, under the widths in force (30_encoding.md R141). -/
def Row.operandBytes (m x : Width) : Row → Nat
  | .implied _ => 0
  | .op8 _ => 1
  | .op16 _ => 2
  | .op24 _ => 3
  | .immM _ => m.bytes
  | .immX _ => x.bytes
  | .banks _ => 2

/-- An immediate assembled from its first and second byte at its width (30_encoding.md R144, R172). -/
def immValue (w : Width) (b0 b1 : Byte) : Word :=
  match w with
  | .b8 => zext b0
  | .b16 => mkWord b1 b0

/-- The instruction a row makes of the operand bytes `b0 b1 b2`, little-endian (30_encoding.md R144). Bytes the row's
format does not have are not looked at. -/
def Row.build (m x : Width) (b0 b1 b2 : Byte) : Row → Instr
  | .implied i => i
  | .op8 f => f b0
  | .op16 f => f (mkWord b1 b0)
  | .op24 f => f (mkAddr b2 (mkWord b1 b0))
  | .immM f => f (immValue m b0 b1)
  | .immX f => f (immValue x b0 b1)
  | .banks f => f b0 b1


/-- Row 0 of the opcode map (30_encoding.md R145): high nibble 0, low nibbles 0 to F. -/
def opcodes0 : List Row :=
  [.op8 Instr.brk, .op8 Instr.oraDpXInd, .op8 Instr.cop, .op8 Instr.oraSr,
   .op8 Instr.tsbDp, .op8 Instr.oraDp, .op8 Instr.aslDp, .op8 Instr.oraDpIndLong,
   .implied Instr.php, .immM Instr.oraImm, .implied Instr.aslAcc, .implied Instr.phd,
   .op16 Instr.tsbAbs, .op16 Instr.oraAbs, .op16 Instr.aslAbs, .op24 Instr.oraLong]

/-- Row 1 of the opcode map (30_encoding.md R145): high nibble 1, low nibbles 0 to F. -/
def opcodes1 : List Row :=
  [.op8 Instr.bpl, .op8 Instr.oraDpIndY, .op8 Instr.oraDpInd, .op8 Instr.oraSrIndY,
   .op8 Instr.trbDp, .op8 Instr.oraDpX, .op8 Instr.aslDpX, .op8 Instr.oraDpIndLongY,
   .implied Instr.clc, .op16 Instr.oraAbsY, .implied Instr.incAcc, .implied Instr.tcs,
   .op16 Instr.trbAbs, .op16 Instr.oraAbsX, .op16 Instr.aslAbsX, .op24 Instr.oraLongX]

/-- Row 2 of the opcode map (30_encoding.md R145): high nibble 2, low nibbles 0 to F. -/
def opcodes2 : List Row :=
  [.op16 Instr.jsrAbs, .op8 Instr.andDpXInd, .op24 Instr.jsl, .op8 Instr.andSr,
   .op8 Instr.bitDp, .op8 Instr.andDp, .op8 Instr.rolDp, .op8 Instr.andDpIndLong,
   .implied Instr.plp, .immM Instr.andImm, .implied Instr.rolAcc, .implied Instr.pld,
   .op16 Instr.bitAbs, .op16 Instr.andAbs, .op16 Instr.rolAbs, .op24 Instr.andLong]

/-- Row 3 of the opcode map (30_encoding.md R145): high nibble 3, low nibbles 0 to F. -/
def opcodes3 : List Row :=
  [.op8 Instr.bmi, .op8 Instr.andDpIndY, .op8 Instr.andDpInd, .op8 Instr.andSrIndY,
   .op8 Instr.bitDpX, .op8 Instr.andDpX, .op8 Instr.rolDpX, .op8 Instr.andDpIndLongY,
   .implied Instr.sec, .op16 Instr.andAbsY, .implied Instr.decAcc, .implied Instr.tsc,
   .op16 Instr.bitAbsX, .op16 Instr.andAbsX, .op16 Instr.rolAbsX, .op24 Instr.andLongX]

/-- Row 4 of the opcode map (30_encoding.md R145): high nibble 4, low nibbles 0 to F. -/
def opcodes4 : List Row :=
  [.implied Instr.rti, .op8 Instr.eorDpXInd, .op8 Instr.wdm, .op8 Instr.eorSr,
   .banks Instr.mvp, .op8 Instr.eorDp, .op8 Instr.lsrDp, .op8 Instr.eorDpIndLong,
   .implied Instr.pha, .immM Instr.eorImm, .implied Instr.lsrAcc, .implied Instr.phk,
   .op16 Instr.jmpAbs, .op16 Instr.eorAbs, .op16 Instr.lsrAbs, .op24 Instr.eorLong]

/-- Row 5 of the opcode map (30_encoding.md R145): high nibble 5, low nibbles 0 to F. -/
def opcodes5 : List Row :=
  [.op8 Instr.bvc, .op8 Instr.eorDpIndY, .op8 Instr.eorDpInd, .op8 Instr.eorSrIndY,
   .banks Instr.mvn, .op8 Instr.eorDpX, .op8 Instr.lsrDpX, .op8 Instr.eorDpIndLongY,
   .implied Instr.cli, .op16 Instr.eorAbsY, .implied Instr.phy, .implied Instr.tcd,
   .op24 Instr.jmlLong, .op16 Instr.eorAbsX, .op16 Instr.lsrAbsX, .op24 Instr.eorLongX]

/-- Row 6 of the opcode map (30_encoding.md R145): high nibble 6, low nibbles 0 to F. -/
def opcodes6 : List Row :=
  [.implied Instr.rts, .op8 Instr.adcDpXInd, .op16 Instr.per, .op8 Instr.adcSr,
   .op8 Instr.stzDp, .op8 Instr.adcDp, .op8 Instr.rorDp, .op8 Instr.adcDpIndLong,
   .implied Instr.pla, .immM Instr.adcImm, .implied Instr.rorAcc, .implied Instr.rtl,
   .op16 Instr.jmpAbsInd, .op16 Instr.adcAbs, .op16 Instr.rorAbs, .op24 Instr.adcLong]

/-- Row 7 of the opcode map (30_encoding.md R145): high nibble 7, low nibbles 0 to F. -/
def opcodes7 : List Row :=
  [.op8 Instr.bvs, .op8 Instr.adcDpIndY, .op8 Instr.adcDpInd, .op8 Instr.adcSrIndY,
   .op8 Instr.stzDpX, .op8 Instr.adcDpX, .op8 Instr.rorDpX, .op8 Instr.adcDpIndLongY,
   .implied Instr.sei, .op16 Instr.adcAbsY, .implied Instr.ply, .implied Instr.tdc,
   .op16 Instr.jmpAbsXInd, .op16 Instr.adcAbsX, .op16 Instr.rorAbsX, .op24 Instr.adcLongX]

/-- Row 8 of the opcode map (30_encoding.md R145): high nibble 8, low nibbles 0 to F. -/
def opcodes8 : List Row :=
  [.op8 Instr.bra, .op8 Instr.staDpXInd, .op16 Instr.brl, .op8 Instr.staSr,
   .op8 Instr.styDp, .op8 Instr.staDp, .op8 Instr.stxDp, .op8 Instr.staDpIndLong,
   .implied Instr.dey, .immM Instr.bitImm, .implied Instr.txa, .implied Instr.phb,
   .op16 Instr.styAbs, .op16 Instr.staAbs, .op16 Instr.stxAbs, .op24 Instr.staLong]

/-- Row 9 of the opcode map (30_encoding.md R145): high nibble 9, low nibbles 0 to F. -/
def opcodes9 : List Row :=
  [.op8 Instr.bcc, .op8 Instr.staDpIndY, .op8 Instr.staDpInd, .op8 Instr.staSrIndY,
   .op8 Instr.styDpX, .op8 Instr.staDpX, .op8 Instr.stxDpY, .op8 Instr.staDpIndLongY,
   .implied Instr.tya, .op16 Instr.staAbsY, .implied Instr.txs, .implied Instr.txy,
   .op16 Instr.stzAbs, .op16 Instr.staAbsX, .op16 Instr.stzAbsX, .op24 Instr.staLongX]

/-- Row A of the opcode map (30_encoding.md R145): high nibble A, low nibbles 0 to F. -/
def opcodesA : List Row :=
  [.immX Instr.ldyImm, .op8 Instr.ldaDpXInd, .immX Instr.ldxImm, .op8 Instr.ldaSr,
   .op8 Instr.ldyDp, .op8 Instr.ldaDp, .op8 Instr.ldxDp, .op8 Instr.ldaDpIndLong,
   .implied Instr.tay, .immM Instr.ldaImm, .implied Instr.tax, .implied Instr.plb,
   .op16 Instr.ldyAbs, .op16 Instr.ldaAbs, .op16 Instr.ldxAbs, .op24 Instr.ldaLong]

/-- Row B of the opcode map (30_encoding.md R145): high nibble B, low nibbles 0 to F. -/
def opcodesB : List Row :=
  [.op8 Instr.bcs, .op8 Instr.ldaDpIndY, .op8 Instr.ldaDpInd, .op8 Instr.ldaSrIndY,
   .op8 Instr.ldyDpX, .op8 Instr.ldaDpX, .op8 Instr.ldxDpY, .op8 Instr.ldaDpIndLongY,
   .implied Instr.clv, .op16 Instr.ldaAbsY, .implied Instr.tsx, .implied Instr.tyx,
   .op16 Instr.ldyAbsX, .op16 Instr.ldaAbsX, .op16 Instr.ldxAbsY, .op24 Instr.ldaLongX]

/-- Row C of the opcode map (30_encoding.md R145): high nibble C, low nibbles 0 to F. -/
def opcodesC : List Row :=
  [.immX Instr.cpyImm, .op8 Instr.cmpDpXInd, .op8 Instr.rep, .op8 Instr.cmpSr,
   .op8 Instr.cpyDp, .op8 Instr.cmpDp, .op8 Instr.decDp, .op8 Instr.cmpDpIndLong,
   .implied Instr.iny, .immM Instr.cmpImm, .implied Instr.dex, .implied Instr.wai,
   .op16 Instr.cpyAbs, .op16 Instr.cmpAbs, .op16 Instr.decAbs, .op24 Instr.cmpLong]

/-- Row D of the opcode map (30_encoding.md R145): high nibble D, low nibbles 0 to F. -/
def opcodesD : List Row :=
  [.op8 Instr.bne, .op8 Instr.cmpDpIndY, .op8 Instr.cmpDpInd, .op8 Instr.cmpSrIndY,
   .op8 Instr.pei, .op8 Instr.cmpDpX, .op8 Instr.decDpX, .op8 Instr.cmpDpIndLongY,
   .implied Instr.cld, .op16 Instr.cmpAbsY, .implied Instr.phx, .implied Instr.stp,
   .op16 Instr.jmlAbsIndLong, .op16 Instr.cmpAbsX, .op16 Instr.decAbsX, .op24 Instr.cmpLongX]

/-- Row E of the opcode map (30_encoding.md R145): high nibble E, low nibbles 0 to F. -/
def opcodesE : List Row :=
  [.immX Instr.cpxImm, .op8 Instr.sbcDpXInd, .op8 Instr.sep, .op8 Instr.sbcSr,
   .op8 Instr.cpxDp, .op8 Instr.sbcDp, .op8 Instr.incDp, .op8 Instr.sbcDpIndLong,
   .implied Instr.inx, .immM Instr.sbcImm, .implied Instr.nop, .implied Instr.xba,
   .op16 Instr.cpxAbs, .op16 Instr.sbcAbs, .op16 Instr.incAbs, .op24 Instr.sbcLong]

/-- Row F of the opcode map (30_encoding.md R145): high nibble F, low nibbles 0 to F. -/
def opcodesF : List Row :=
  [.op8 Instr.beq, .op8 Instr.sbcDpIndY, .op8 Instr.sbcDpInd, .op8 Instr.sbcSrIndY,
   .op16 Instr.pea, .op8 Instr.sbcDpX, .op8 Instr.incDpX, .op8 Instr.sbcDpIndLongY,
   .implied Instr.sed, .op16 Instr.sbcAbsY, .implied Instr.plx, .implied Instr.xce,
   .op16 Instr.jsrAbsXInd, .op16 Instr.sbcAbsX, .op16 Instr.incAbsX, .op24 Instr.sbcLongX]

/-- The opcode map of 30_encoding.md R145, one row for each high nibble. -/
def opcodeMap : List (List Row) :=
  [opcodes0, opcodes1, opcodes2, opcodes3, opcodes4, opcodes5, opcodes6, opcodes7,
   opcodes8, opcodes9, opcodesA, opcodesB, opcodesC, opcodesD, opcodesE, opcodesF]

/-- The row of an opcode. The map has all 256 cells (30_encoding.md R146), so the defaults are never reached. -/
def opcodeRow (op : Byte) : Row := (opcodeMap.getD (op.toNat / 16) []).getD (op.toNat % 16) (.implied .nop)

/-- Decode one instruction under the widths in force, and give the bytes after it (30_encoding.md R142, R147). -/
def decode (m x : Width) : List Byte → Except DecodeError (Instr × List Byte)
  | [] => .error .noOpcode
  | op :: rest =>
    let row := opcodeRow op
    let n := row.operandBytes m x
    if rest.length < n then .error (.truncated op)
    else .ok (row.build m x (rest.getD 0 0) (rest.getD 1 0) (rest.getD 2 0), rest.drop n)

/-- The opcode byte of an instruction (30_encoding.md R145). -/
def Instr.opcode : Instr → Byte
  | .brk _ => 0x00
  | .oraDpXInd _ => 0x01
  | .cop _ => 0x02
  | .oraSr _ => 0x03
  | .tsbDp _ => 0x04
  | .oraDp _ => 0x05
  | .aslDp _ => 0x06
  | .oraDpIndLong _ => 0x07
  | .php => 0x08
  | .oraImm _ => 0x09
  | .aslAcc => 0x0A
  | .phd => 0x0B
  | .tsbAbs _ => 0x0C
  | .oraAbs _ => 0x0D
  | .aslAbs _ => 0x0E
  | .oraLong _ => 0x0F
  | .bpl _ => 0x10
  | .oraDpIndY _ => 0x11
  | .oraDpInd _ => 0x12
  | .oraSrIndY _ => 0x13
  | .trbDp _ => 0x14
  | .oraDpX _ => 0x15
  | .aslDpX _ => 0x16
  | .oraDpIndLongY _ => 0x17
  | .clc => 0x18
  | .oraAbsY _ => 0x19
  | .incAcc => 0x1A
  | .tcs => 0x1B
  | .trbAbs _ => 0x1C
  | .oraAbsX _ => 0x1D
  | .aslAbsX _ => 0x1E
  | .oraLongX _ => 0x1F
  | .jsrAbs _ => 0x20
  | .andDpXInd _ => 0x21
  | .jsl _ => 0x22
  | .andSr _ => 0x23
  | .bitDp _ => 0x24
  | .andDp _ => 0x25
  | .rolDp _ => 0x26
  | .andDpIndLong _ => 0x27
  | .plp => 0x28
  | .andImm _ => 0x29
  | .rolAcc => 0x2A
  | .pld => 0x2B
  | .bitAbs _ => 0x2C
  | .andAbs _ => 0x2D
  | .rolAbs _ => 0x2E
  | .andLong _ => 0x2F
  | .bmi _ => 0x30
  | .andDpIndY _ => 0x31
  | .andDpInd _ => 0x32
  | .andSrIndY _ => 0x33
  | .bitDpX _ => 0x34
  | .andDpX _ => 0x35
  | .rolDpX _ => 0x36
  | .andDpIndLongY _ => 0x37
  | .sec => 0x38
  | .andAbsY _ => 0x39
  | .decAcc => 0x3A
  | .tsc => 0x3B
  | .bitAbsX _ => 0x3C
  | .andAbsX _ => 0x3D
  | .rolAbsX _ => 0x3E
  | .andLongX _ => 0x3F
  | .rti => 0x40
  | .eorDpXInd _ => 0x41
  | .wdm _ => 0x42
  | .eorSr _ => 0x43
  | .mvp _ _ => 0x44
  | .eorDp _ => 0x45
  | .lsrDp _ => 0x46
  | .eorDpIndLong _ => 0x47
  | .pha => 0x48
  | .eorImm _ => 0x49
  | .lsrAcc => 0x4A
  | .phk => 0x4B
  | .jmpAbs _ => 0x4C
  | .eorAbs _ => 0x4D
  | .lsrAbs _ => 0x4E
  | .eorLong _ => 0x4F
  | .bvc _ => 0x50
  | .eorDpIndY _ => 0x51
  | .eorDpInd _ => 0x52
  | .eorSrIndY _ => 0x53
  | .mvn _ _ => 0x54
  | .eorDpX _ => 0x55
  | .lsrDpX _ => 0x56
  | .eorDpIndLongY _ => 0x57
  | .cli => 0x58
  | .eorAbsY _ => 0x59
  | .phy => 0x5A
  | .tcd => 0x5B
  | .jmlLong _ => 0x5C
  | .eorAbsX _ => 0x5D
  | .lsrAbsX _ => 0x5E
  | .eorLongX _ => 0x5F
  | .rts => 0x60
  | .adcDpXInd _ => 0x61
  | .per _ => 0x62
  | .adcSr _ => 0x63
  | .stzDp _ => 0x64
  | .adcDp _ => 0x65
  | .rorDp _ => 0x66
  | .adcDpIndLong _ => 0x67
  | .pla => 0x68
  | .adcImm _ => 0x69
  | .rorAcc => 0x6A
  | .rtl => 0x6B
  | .jmpAbsInd _ => 0x6C
  | .adcAbs _ => 0x6D
  | .rorAbs _ => 0x6E
  | .adcLong _ => 0x6F
  | .bvs _ => 0x70
  | .adcDpIndY _ => 0x71
  | .adcDpInd _ => 0x72
  | .adcSrIndY _ => 0x73
  | .stzDpX _ => 0x74
  | .adcDpX _ => 0x75
  | .rorDpX _ => 0x76
  | .adcDpIndLongY _ => 0x77
  | .sei => 0x78
  | .adcAbsY _ => 0x79
  | .ply => 0x7A
  | .tdc => 0x7B
  | .jmpAbsXInd _ => 0x7C
  | .adcAbsX _ => 0x7D
  | .rorAbsX _ => 0x7E
  | .adcLongX _ => 0x7F
  | .bra _ => 0x80
  | .staDpXInd _ => 0x81
  | .brl _ => 0x82
  | .staSr _ => 0x83
  | .styDp _ => 0x84
  | .staDp _ => 0x85
  | .stxDp _ => 0x86
  | .staDpIndLong _ => 0x87
  | .dey => 0x88
  | .bitImm _ => 0x89
  | .txa => 0x8A
  | .phb => 0x8B
  | .styAbs _ => 0x8C
  | .staAbs _ => 0x8D
  | .stxAbs _ => 0x8E
  | .staLong _ => 0x8F
  | .bcc _ => 0x90
  | .staDpIndY _ => 0x91
  | .staDpInd _ => 0x92
  | .staSrIndY _ => 0x93
  | .styDpX _ => 0x94
  | .staDpX _ => 0x95
  | .stxDpY _ => 0x96
  | .staDpIndLongY _ => 0x97
  | .tya => 0x98
  | .staAbsY _ => 0x99
  | .txs => 0x9A
  | .txy => 0x9B
  | .stzAbs _ => 0x9C
  | .staAbsX _ => 0x9D
  | .stzAbsX _ => 0x9E
  | .staLongX _ => 0x9F
  | .ldyImm _ => 0xA0
  | .ldaDpXInd _ => 0xA1
  | .ldxImm _ => 0xA2
  | .ldaSr _ => 0xA3
  | .ldyDp _ => 0xA4
  | .ldaDp _ => 0xA5
  | .ldxDp _ => 0xA6
  | .ldaDpIndLong _ => 0xA7
  | .tay => 0xA8
  | .ldaImm _ => 0xA9
  | .tax => 0xAA
  | .plb => 0xAB
  | .ldyAbs _ => 0xAC
  | .ldaAbs _ => 0xAD
  | .ldxAbs _ => 0xAE
  | .ldaLong _ => 0xAF
  | .bcs _ => 0xB0
  | .ldaDpIndY _ => 0xB1
  | .ldaDpInd _ => 0xB2
  | .ldaSrIndY _ => 0xB3
  | .ldyDpX _ => 0xB4
  | .ldaDpX _ => 0xB5
  | .ldxDpY _ => 0xB6
  | .ldaDpIndLongY _ => 0xB7
  | .clv => 0xB8
  | .ldaAbsY _ => 0xB9
  | .tsx => 0xBA
  | .tyx => 0xBB
  | .ldyAbsX _ => 0xBC
  | .ldaAbsX _ => 0xBD
  | .ldxAbsY _ => 0xBE
  | .ldaLongX _ => 0xBF
  | .cpyImm _ => 0xC0
  | .cmpDpXInd _ => 0xC1
  | .rep _ => 0xC2
  | .cmpSr _ => 0xC3
  | .cpyDp _ => 0xC4
  | .cmpDp _ => 0xC5
  | .decDp _ => 0xC6
  | .cmpDpIndLong _ => 0xC7
  | .iny => 0xC8
  | .cmpImm _ => 0xC9
  | .dex => 0xCA
  | .wai => 0xCB
  | .cpyAbs _ => 0xCC
  | .cmpAbs _ => 0xCD
  | .decAbs _ => 0xCE
  | .cmpLong _ => 0xCF
  | .bne _ => 0xD0
  | .cmpDpIndY _ => 0xD1
  | .cmpDpInd _ => 0xD2
  | .cmpSrIndY _ => 0xD3
  | .pei _ => 0xD4
  | .cmpDpX _ => 0xD5
  | .decDpX _ => 0xD6
  | .cmpDpIndLongY _ => 0xD7
  | .cld => 0xD8
  | .cmpAbsY _ => 0xD9
  | .phx => 0xDA
  | .stp => 0xDB
  | .jmlAbsIndLong _ => 0xDC
  | .cmpAbsX _ => 0xDD
  | .decAbsX _ => 0xDE
  | .cmpLongX _ => 0xDF
  | .cpxImm _ => 0xE0
  | .sbcDpXInd _ => 0xE1
  | .sep _ => 0xE2
  | .sbcSr _ => 0xE3
  | .cpxDp _ => 0xE4
  | .sbcDp _ => 0xE5
  | .incDp _ => 0xE6
  | .sbcDpIndLong _ => 0xE7
  | .inx => 0xE8
  | .sbcImm _ => 0xE9
  | .nop => 0xEA
  | .xba => 0xEB
  | .cpxAbs _ => 0xEC
  | .sbcAbs _ => 0xED
  | .incAbs _ => 0xEE
  | .sbcLong _ => 0xEF
  | .beq _ => 0xF0
  | .sbcDpIndY _ => 0xF1
  | .sbcDpInd _ => 0xF2
  | .sbcSrIndY _ => 0xF3
  | .pea _ => 0xF4
  | .sbcDpX _ => 0xF5
  | .incDpX _ => 0xF6
  | .sbcDpIndLongY _ => 0xF7
  | .sed => 0xF8
  | .sbcAbsY _ => 0xF9
  | .plx => 0xFA
  | .xce => 0xFB
  | .jsrAbsXInd _ => 0xFC
  | .sbcAbsX _ => 0xFD
  | .incAbsX _ => 0xFE
  | .sbcLongX _ => 0xFF

/-- The operand bytes of an operand field, low byte first (30_encoding.md R140, R144). -/
def Operand.encode (m x : Width) : Operand → List Byte
  | .none => []
  | .byte b => [b]
  | .word w => [loByte w, hiByte w]
  | .long a => [loByte (offOf a), hiByte (offOf a), bankOf a]
  | .immM v => [loByte v, hiByte v].take m.bytes
  | .immX v => [loByte v, hiByte v].take x.bytes
  | .banks dbk sbk => [dbk, sbk]

/-- The bytes of a well-formed instruction (30_encoding.md R140). -/
def encode (m x : Width) (i : Instr) : List Byte := i.opcode :: i.operand.encode m x

/-- The length of an instruction in bytes (30_encoding.md R141). -/
def Instr.length (m x : Width) (i : Instr) : Nat := 1 + (opcodeRow i.opcode).operandBytes m x

/-- Byte `k` of a number whose bit 0 is the least significant bit of the first byte. -/
def tableByte (w k : Nat) : Byte := BitVec.ofNat 8 (w / 256 ^ k)

/-- The four bytes of a table word: `nbits` bits of `w`, every bit above them 0. -/
def tableBytes (nbits w : Nat) : List Byte :=
  let v := w % 2 ^ nbits
  [tableByte v 0, tableByte v 1, tableByte v 2, tableByte v 3]

/-- The instruction the decoder reads from the word of an opcode-table row, under the widths P has after reset
(P.M = P.X = 1, 10_state.md R55). -/
def decodeTableWord (nbits w : Nat) : Option Instr :=
  match decode .b8 .b8 (tableBytes nbits w) with
  | .ok r => some r.1
  | .error _ => none

end Sys2Proof
end

