-- ==== Sys2Proof/Config.lean ====
section
/-! DEFINITION. The parameters the spec lets a model take as arguments (00_scope.md R9), with the value it decides for each, and the draws it leaves free. -/
namespace Sys2Proof

/-- `MAPPER` (00_scope.md R9, 20_memory.md R92, R93). -/
inductive Mapper where
  | loROM
  | hiROM
  deriving DecidableEq, Repr

/-- `DMA_TIMING` (00_scope.md R9, 60_exceptions.md R438). -/
inductive DmaTiming where
  | immediate
  | afterSlice
  deriving DecidableEq, Repr

/-- The parameters of 00_scope.md R9 that the spec decides, and two of the model's own (logs 27 and 29). They are held as data, so that a statement over all states
holds for every value a parameter may take; `Config.decided` is the spec's own choice. -/
structure Config where
  /-- `HIROM_LOW_WINDOW_START` (D10). -/
  hiromLowWindowStart : Word
  /-- `HIROM_FULL_BANKS_C0_FF` (D10). -/
  hiromFullBanks : Bool
  /-- `EMU_DP_PAGE_WRAP` (D4). -/
  emuDpPageWrap : Bool
  /-- `EMU_STACK_NEW_OPS_NOWRAP` (D5). -/
  emuStackNewOpsNoWrap : Bool
  /-- `NMI_ON_LATE_ENABLE` (D21). -/
  nmiOnLateEnable : Bool
  /-- `DMA_TIMING` (D25). -/
  dmaTiming : DmaTiming
  /-- `HDMA_FRAME_REINIT` (D26). -/
  hdmaFrameReinit : Bool
  /-- `LINES_PER_FRAME`. -/
  linesPerFrame : Nat
  /-- `VBLANK_LINE` (D22). -/
  vblankLine : Nat
  /-- `CPU_VERSION`, bits 3:0 of RDNMI (D16). -/
  cpuVersion : BitVec 4
  /-- The MODEL's own (log 27): where 20_memory.md R105 contradicts itself on a 16-bit store at WMDATA, true sends both bytes
  through WMDATA (its example), false sends them to consecutive addresses (its first clause, R82, R88, R194). -/
  wideWmdata : Bool
  /-- The MODEL's own (log 29): where 70_reset_and_hazards.md R505 contradicts 48_block_move.md R350 and R351 on a DB that an
  interrupt handler changes inside a block move, true lets it be the destination bank of the rest of the move (R505), false
  overwrites it (R350, R351). -/
  moveKeepsDb : Bool
  deriving DecidableEq, Repr

/-- The values the spec decides (00_scope.md R9). DESIGN CHOICE (logs 27 and 29): `wideWmdata` and `moveKeepsDb` are false. -/
def Config.decided : Config where
  hiromLowWindowStart := 0xC000
  hiromFullBanks := false
  emuDpPageWrap := true
  emuStackNewOpsNoWrap := false
  nmiOnLateEnable := false
  dmaTiming := .immediate
  hdmaFrameReinit := false
  linesPerFrame := 262
  vblankLine := 224
  cpuVersion := 2
  wideWmdata := false
  moveKeepsDb := false

/-- FREE VALUE. Draw number `n` of a byte: a PPU register read (D15) and what the SPC700 puts in its ports (D14). -/
opaque Config.freeByte : Nat → Byte

/-- FREE VALUE. Draw number `n` of one bit: HVBJOY bit 6, hblank (D23). -/
opaque Config.freeBit : Nat → Bool

/-- FREE VALUE. Draw number `n` of a count: `SLICE(y)` less one (D24) and the step before which an H-timer IRQ is raised
(D23). -/
opaque Config.freeNat : Nat → Nat

end Sys2Proof
end

