-- ==== Sys2Proof/Machine/State.lean ====
section
/-! DEFINITION. The machine's state as plain data (10_state.md, 20_memory.md, 60_exceptions.md R415 to R447), the state after reset, and the reasons a step can stop. -/
namespace Sys2Proof.Machine

/-- A byte store: (index, byte) cells, indices strictly rising, no cell equal to what an unlisted index reads as
(`Memory.wf` in Machine/Memory.lean says so). WRAM, SRAM and ROM are each one (20_memory.md R81). -/
abbrev Memory := List Host.Cell

/-- Four like registers, by port or player number. -/
structure Four (α : Type) where
  r0 : α
  r1 : α
  r2 : α
  r3 : α
  deriving DecidableEq, Repr

/-- Eight like registers, by DMA channel number. -/
structure Eight (α : Type) where
  c0 : α
  c1 : α
  c2 : α
  c3 : α
  c4 : α
  c5 : α
  c6 : α
  c7 : α
  deriving DecidableEq, Repr

/-- The run state (10_state.md R50). -/
inductive RunState where
  | running
  | waiting
  | stopped
  deriving DecidableEq, Repr

/-- The MODEL's own (log 29): a block move that has bytes left, by the address of its opcode and the destination bank it last
fetched. -/
structure MoveRecord where
  opcode : Addr
  bank : Byte
  deriving DecidableEq, Repr

/-- The processor's registers (10_state.md R40) and its run state (R50). -/
structure Cpu where
  /-- Accumulator, 16 bits of state whatever P.M is (R41). -/
  a : Word
  /-- Index register X (R42). -/
  x : Word
  /-- Index register Y (R42). -/
  y : Word
  /-- Stack pointer SH:SL, into bank 0 (R40). -/
  s : Word
  /-- Direct-page base (R40). -/
  d : Word
  /-- Data bank, the source's B (R40). -/
  db : Byte
  /-- Program bank, the source's K (R40). -/
  pb : Byte
  /-- Offset of the next instruction byte in bank PB (R45). -/
  pc : Word
  /-- Status NVMXDIZC, bit 7 to bit 0 (R46). -/
  p : Byte
  /-- Emulation flag, true in emulation mode (R40). -/
  e : Bool
  /-- Run state (R50). -/
  run : RunState
  /-- The MODEL's own: the block moves in progress, kept only under `moveKeepsDb` (log 29). -/
  moves : List MoveRecord
  deriving DecidableEq, Repr

/-- What `load_rom` fixes (20_memory.md R94): mapper, ROM image and its size, SRAM size. -/
structure Cartridge where
  mapper : Mapper
  romSize : Nat
  sramSize : Nat
  rom : Memory
  deriving DecidableEq, Repr

/-- The controllers: the masks the host set and the serial ports' state (20_memory.md R89). -/
structure Pads where
  mask : Four Word
  strobe : Bool
  shift0 : Word
  shift1 : Word
  deriving DecidableEq, Repr

/-- The platform registers of 0x4200-0x421F (60_exceptions.md R415 to R436). -/
structure Platform where
  nmitimen : Byte
  wrio : Byte
  wrmpya : Byte
  wrdiv : Word
  rddiv : Word
  rdmpy : Word
  htime : BitVec 9
  vtime : BitVec 9
  hdmaen : Byte
  memsel : Byte
  rdnmi : Bool
  timeup : Bool
  vblank : Bool
  joy : Four Word
  deriving DecidableEq, Repr

/-- One DMA channel (60_exceptions.md R437). -/
structure Channel where
  dmap : Byte
  bbad : Byte
  a1t : Word
  a1b : Byte
  das : Word
  dasb : Byte
  a2a : Word
  ntrl : Byte
  unused : Byte
  doTransfer : Bool
  terminated : Bool
  deriving DecidableEq, Repr

/-- Everything behind the processor's bus (20_memory.md R81), the interrupt latch it sets (10_state.md R51), and the
model's counter of free values drawn. -/
structure Bus where
  /-- The parameters (00_scope.md R9). No step changes them. -/
  cfg : Config
  /-- The cartridge (20_memory.md R94). No step changes it. -/
  cart : Cartridge
  wram : Memory
  sram : Memory
  /-- The open-bus latch (20_memory.md R97). -/
  latch : Byte
  toApu : Four Byte
  fromApu : Four Byte
  wramPtr : BitVec 17
  pads : Pads
  plat : Platform
  dma : Eight Channel
  /-- The values written to MDMAEN whose transfers have not yet run, oldest first, under `DMA_TIMING = after_slice`
  (60_exceptions.md R424, R438). -/
  dmaPending : List Byte
  /-- The NMI edge latch (60_exceptions.md R406). -/
  nmiPending : Bool
  /-- The MODEL's own: how many free values have been drawn (log 6). -/
  draws : Nat
  deriving DecidableEq, Repr

/-- A frame in progress (60_exceptions.md R447): the scanline, the CPU steps left in its slice, and the value of `left`
at the step before which the H timer fires (R443). -/
structure FrameState where
  line : Nat
  left : Nat
  timerAt : Nat
  deriving DecidableEq, Repr

/-- The whole machine. -/
structure State where
  cpu : Cpu
  bus : Bus
  /-- The host's reset request (10_state.md R51, 70_reset_and_hazards.md R500). -/
  resetRequest : Bool
  /-- The frame in progress, none outside `step_frame()` (60_exceptions.md R447). -/
  frame : Option FrameState
  deriving DecidableEq, Repr

/-- The reasons the machine stops with a fault. There are none: no opcode is illegal (30_encoding.md R146), no access
faults (20_memory.md R83, R110) and no instruction traps other than into BRK and COP (60_exceptions.md R411). -/
inductive Fault : Type
  deriving DecidableEq, Repr

/-- The reasons an instruction has no meaning. -/
inductive Refusal where
  /-- An arm of `exec` whose instruction has no meaning yet. Safe: the machine stops. No arm raises it. -/
  | notModelled (mnemonic : String)
  deriving DecidableEq, Repr

/-- What a step answers. -/
abbrev Out := Host.Outcome State Fault Refusal

/-- A DMA channel after reset (60_exceptions.md R445). DESIGN CHOICE (log 4): the mapped registers, which the spec leaves
unwritten, are 0. -/
def Channel.reset : Channel where
  dmap := 0
  bbad := 0
  a1t := 0
  a1b := 0
  das := 0
  dasb := 0
  a2a := 0
  ntrl := 0
  unused := 0
  doTransfer := false
  terminated := true

/-- The platform registers after reset (60_exceptions.md R445). DESIGN CHOICE (log 4): `rddiv` and `rdmpy`, which the
spec leaves unwritten, are 0. -/
def Platform.reset : Platform where
  nmitimen := 0x00
  wrio := 0xFF
  wrmpya := 0xFF
  wrdiv := 0xFFFF
  rddiv := 0
  rdmpy := 0
  htime := 0x1FF
  vtime := 0x1FF
  hdmaen := 0x00
  memsel := 0x00
  rdnmi := false
  timeup := false
  vblank := false
  joy := ⟨0, 0, 0, 0⟩

/-- The machine right after reset (10_state.md R55, 70_reset_and_hazards.md R501, 60_exceptions.md R445).
DESIGN CHOICE: A, XL, YL and the flags N, V, Z, C are 0 (log 1), SL is 0xFF (log 2), no byte of WRAM or SRAM is listed
(log 3), the bus registers without a reset value are 0 (log 4), and the cartridge is 32 KiB of LoROM with no byte listed,
so that PC and the latch are 0 (log 5). -/
def State.reset : State where
  cpu := {
    a := 0
    x := 0
    y := 0
    s := 0x01FF
    d := 0
    db := 0
    pb := 0
    pc := 0
    p := 0x34
    e := true
    run := .running
    moves := [] }
  bus := {
    cfg := Config.decided
    cart := { mapper := .loROM, romSize := 0x8000, sramSize := 0, rom := [] }
    wram := []
    sram := []
    latch := 0
    toApu := ⟨0, 0, 0, 0⟩
    fromApu := ⟨0, 0, 0, 0⟩
    wramPtr := 0
    pads := { mask := ⟨0, 0, 0, 0⟩, strobe := false, shift0 := 0, shift1 := 0 }
    plat := Platform.reset
    dma := ⟨Channel.reset, Channel.reset, Channel.reset, Channel.reset,
      Channel.reset, Channel.reset, Channel.reset, Channel.reset⟩
    dmaPending := []
    nmiPending := false
    draws := 0 }
  resetRequest := false
  frame := none

end Sys2Proof.Machine
end

