-- ==== Sys2Proof/Machine/Memory.lean ====
section
/-! DEFINITION. Byte stores in canonical form (20_memory.md R81), and indexing of register groups. -/
namespace Sys2Proof.Machine

/-- What an index no cell lists reads as. DESIGN CHOICE (log 3): 0x00; the spec leaves power-on contents unwritten (D17). -/
def Memory.unlisted : Byte := 0x00

/-- One byte of a store. -/
def Memory.read : Memory → Nat → Byte
  | [], _ => Memory.unlisted
  | c :: m, k => if c.1 = k then c.2 else Memory.read m k

/-- The store with `v` at index `k`; writing what an unlisted index reads as removes the cell. -/
def Memory.write : Memory → Nat → Byte → Memory
  | [], k, v => if v = Memory.unlisted then [] else [(k, v)]
  | c :: m, k, v =>
    if c.1 < k then c :: Memory.write m k v
    else
      let tail := if c.1 = k then m else c :: m
      if v = Memory.unlisted then tail else (k, v) :: tail

/-- Canonical from index `lo` up: indices rise strictly and no cell holds the unlisted byte. -/
def Memory.wfFrom : Nat → Memory → Bool
  | _, [] => true
  | lo, c :: m => decide (lo ≤ c.1) && decide (c.2 ≠ Memory.unlisted) && Memory.wfFrom (c.1 + 1) m

/-- The canonical form of a store. -/
def Memory.wf (m : Memory) : Bool := Memory.wfFrom 0 m

/-- Every listed index is below `n`. -/
def Memory.below (n : Nat) (m : Memory) : Bool := m.all fun c => decide (c.1 < n)

/-- The store that holds a byte image from index `k` on. -/
def Memory.image : Nat → List Byte → Memory
  | _, [] => []
  | k, v :: vs => if v = Memory.unlisted then Memory.image (k + 1) vs else (k, v) :: Memory.image (k + 1) vs

/-- The bytes of a store from index `k`, `n` of them. -/
def Memory.bytes (m : Memory) : Nat → Nat → List Byte
  | _, 0 => []
  | k, n + 1 => Memory.read m k :: Memory.bytes m (k + 1) n

/-- Register number `i` of four. -/
def Four.get {α : Type} (f : Four α) (i : BitVec 2) : α :=
  if i = 0 then f.r0 else if i = 1 then f.r1 else if i = 2 then f.r2 else f.r3

/-- Four registers with number `i` replaced. -/
def Four.set {α : Type} (f : Four α) (i : BitVec 2) (v : α) : Four α :=
  if i = 0 then { f with r0 := v } else if i = 1 then { f with r1 := v }
  else if i = 2 then { f with r2 := v } else { f with r3 := v }

/-- Register number `i` of eight. -/
def Eight.get {α : Type} (f : Eight α) (i : BitVec 3) : α :=
  if i = 0 then f.c0 else if i = 1 then f.c1 else if i = 2 then f.c2 else if i = 3 then f.c3
  else if i = 4 then f.c4 else if i = 5 then f.c5 else if i = 6 then f.c6 else f.c7

/-- Eight registers with number `i` replaced. -/
def Eight.set {α : Type} (f : Eight α) (i : BitVec 3) (v : α) : Eight α :=
  if i = 0 then { f with c0 := v } else if i = 1 then { f with c1 := v }
  else if i = 2 then { f with c2 := v } else if i = 3 then { f with c3 := v }
  else if i = 4 then { f with c4 := v } else if i = 5 then { f with c5 := v }
  else if i = 6 then { f with c6 := v } else { f with c7 := v }

/-- A register of each of eight, renewed by one rule. -/
def Eight.map {α : Type} (f : Eight α) (g : α → α) : Eight α :=
  ⟨g f.c0, g f.c1, g f.c2, g f.c3, g f.c4, g f.c5, g f.c6, g f.c7⟩

end Sys2Proof.Machine
end

