-- ==== Sys2Proof/Machine/Bus.lean ====
section
/-! DEFINITION. The bus: address decode, and reads and writes of every target but the two DMA triggers (20_memory.md R80 to R97; 60_exceptions.md R415 to R437). -/
namespace Sys2Proof.Machine

/-- What an address selects (20_memory.md R82). Store indices are plain numbers, register numbers are bit fields. -/
inductive Target where
  | wram (k : Nat)
  | rom (k : Nat)
  | sram (k : Nat)
  /-- PPU register 0x2100 + r (R86). -/
  | ppu (r : Nat)
  /-- Mailbox port (R87). -/
  | mailbox (p : BitVec 2)
  /-- WRAM port register 0x2180 + r (R88). -/
  | wramPort (r : BitVec 2)
  /-- Controller serial port 0x4016 or 0x4017 (R89). -/
  | serial (q : BitVec 1)
  /-- Platform register 0x4200 + r (R90). -/
  | platform (r : BitVec 5)
  /-- DMA register r of channel c (R91). -/
  | dma (c : BitVec 3) (r : BitVec 4)
  /-- No target: open bus (R95). -/
  | unmapped
  deriving DecidableEq, Repr

/-- The system banks 0x00-0x3F and 0x80-0xBF (20_memory.md R82). -/
def systemBank (bank : Nat) : Bool := decide (bank ≤ 0x3F) || (decide (0x80 ≤ bank) && decide (bank ≤ 0xBF))

/-- `Cartridge_LoROM` (20_memory.md R92). -/
def loRomTarget (cart : Cartridge) (bank off : Nat) : Target :=
  if 0x8000 ≤ off then .rom (((bank &&& 0x7F) * 0x8000 + (off - 0x8000)) % cart.romSize)
  else if 0x70 ≤ bank ∧ bank ≤ 0x7D ∧ 0 < cart.sramSize then .sram (((bank - 0x70) * 0x8000 + off) % cart.sramSize)
  else .unmapped

/-- `Cartridge_HiROM` (20_memory.md R93). -/
def hiRomTarget (cfg : Config) (cart : Cartridge) (bank off : Nat) : Target :=
  if (0x40 ≤ bank ∧ bank ≤ 0x7D) ∨ (cfg.hiromFullBanks = true ∧ 0xC0 ≤ bank) ∨ cfg.hiromLowWindowStart.toNat ≤ off then
    .rom (((bank &&& 0x3F) * 0x10000 + off) % cart.romSize)
  else if 0x20 ≤ bank ∧ bank ≤ 0x3F ∧ 0x6000 ≤ off ∧ off ≤ 0x7FFF ∧ 0 < cart.sramSize then
    .sram (((bank - 0x20) * 0x2000 + (off - 0x6000)) % cart.sramSize)
  else .unmapped

/-- `Cartridge(addr)` (20_memory.md R92, R93). -/
def cartTarget (cfg : Config) (cart : Cartridge) (bank off : Nat) : Target :=
  match cart.mapper with
  | .loROM => loRomTarget cart bank off
  | .hiROM => hiRomTarget cfg cart bank off

/-- `Decode(addr)`, in the order of 20_memory.md R82. -/
def busTarget (cfg : Config) (cart : Cartridge) (addr : Addr) : Target :=
  let bank := (bankOf addr).toNat
  let off := (offOf addr).toNat
  if bank = 0x7E ∨ bank = 0x7F then .wram ((bank - 0x7E) * 0x10000 + off)
  else if systemBank bank then
    if off ≤ 0x1FFF then .wram off
    else if 0x2100 ≤ off ∧ off ≤ 0x213F then .ppu (off - 0x2100)
    else if 0x2140 ≤ off ∧ off ≤ 0x217F then .mailbox (BitVec.ofNat 2 off)
    else if 0x2180 ≤ off ∧ off ≤ 0x2183 then .wramPort (BitVec.ofNat 2 off)
    else if 0x4016 ≤ off ∧ off ≤ 0x4017 then .serial (BitVec.ofNat 1 off)
    else if 0x4200 ≤ off ∧ off ≤ 0x421F then .platform (BitVec.ofNat 5 off)
    else if 0x4300 ≤ off ∧ off ≤ 0x437F then .dma (BitVec.ofNat 3 (off / 16)) (BitVec.ofNat 4 off)
    else cartTarget cfg cart bank off
  else cartTarget cfg cart bank off

/-- `irq_line` (10_state.md R51): the level of the H/V timer flag (60_exceptions.md R407). -/
def Bus.irqLine (b : Bus) : Bool := b.plat.timeup

/-- A byte with bit 7 from a flag and bits 6:0 from another byte. -/
def bit7 (f : Bool) (low : Byte) : Byte := (if f then 0x80 else 0x00) ||| (low &&& 0x7F)

/-- A byte a read returns and the bus after it. -/
structure BusRead where
  v : Byte
  bus : Bus
  deriving DecidableEq, Repr

/-- A read of platform register 0x4200 + r (60_exceptions.md R428, R430 to R436). -/
def Bus.readPlatform (b : Bus) (r : BitVec 5) : BusRead :=
  match r.toNat with
  | 0x10 => { v := bit7 b.plat.rdnmi ((b.latch &&& 0x70) ||| b.cfg.cpuVersion.setWidth 8),
              bus := { b with plat := { b.plat with rdnmi := false } } }
  | 0x11 => { v := bit7 b.plat.timeup b.latch, bus := { b with plat := { b.plat with timeup := false } } }
  | 0x12 => { v := bit7 b.plat.vblank ((if Config.freeBit b.draws then 0x40 else 0x00) ||| (b.latch &&& 0x3E)),
              bus := { b with draws := b.draws + 1 } }
  | 0x13 => { v := b.plat.wrio, bus := b }
  | 0x14 => { v := loByte b.plat.rddiv, bus := b }
  | 0x15 => { v := hiByte b.plat.rddiv, bus := b }
  | 0x16 => { v := loByte b.plat.rdmpy, bus := b }
  | 0x17 => { v := hiByte b.plat.rdmpy, bus := b }
  | 0x18 => { v := loByte b.plat.joy.r0, bus := b }
  | 0x19 => { v := hiByte b.plat.joy.r0, bus := b }
  | 0x1A => { v := loByte b.plat.joy.r1, bus := b }
  | 0x1B => { v := hiByte b.plat.joy.r1, bus := b }
  | 0x1C => { v := loByte b.plat.joy.r2, bus := b }
  | 0x1D => { v := hiByte b.plat.joy.r2, bus := b }
  | 0x1E => { v := loByte b.plat.joy.r3, bus := b }
  | 0x1F => { v := hiByte b.plat.joy.r3, bus := b }
  | _ => { v := b.latch, bus := b }

/-- A read of DMA register `r` of a channel; none where the offset holds no register (60_exceptions.md R437). -/
def Channel.read (ch : Channel) (r : BitVec 4) : Option Byte :=
  match r.toNat with
  | 0x0 => some ch.dmap
  | 0x1 => some ch.bbad
  | 0x2 => some (loByte ch.a1t)
  | 0x3 => some (hiByte ch.a1t)
  | 0x4 => some ch.a1b
  | 0x5 => some (loByte ch.das)
  | 0x6 => some (hiByte ch.das)
  | 0x7 => some ch.dasb
  | 0x8 => some (loByte ch.a2a)
  | 0x9 => some (hiByte ch.a2a)
  | 0xA => some ch.ntrl
  | 0xB => some ch.unused
  | 0xF => some ch.unused
  | _ => none

/-- A word with its low byte replaced. -/
def withLo (w : Word) (v : Byte) : Word := mkWord (hiByte w) v

/-- A word with its high byte replaced. -/
def withHi (w : Word) (v : Byte) : Word := mkWord v (loByte w)

/-- A write of DMA register `r` of a channel (60_exceptions.md R437, R442). -/
def Channel.write (ch : Channel) (r : BitVec 4) (v : Byte) : Channel :=
  match r.toNat with
  | 0x0 => { ch with dmap := v }
  | 0x1 => { ch with bbad := v }
  | 0x2 => { ch with a1t := withLo ch.a1t v }
  | 0x3 => { ch with a1t := withHi ch.a1t v }
  | 0x4 => { ch with a1b := v }
  | 0x5 => { ch with das := withLo ch.das v }
  | 0x6 => { ch with das := withHi ch.das v }
  | 0x7 => { ch with dasb := v }
  | 0x8 => { ch with a2a := withLo ch.a2a v }
  | 0x9 => { ch with a2a := withHi ch.a2a v }
  | 0xA => { ch with ntrl := v }
  | 0xB => { ch with unused := v }
  | 0xF => { ch with unused := v }
  | _ => ch

/-- A read of controller port `q` (20_memory.md R89): one bit, bits 7:1 from the latch. -/
def Bus.readSerial (b : Bus) (q : BitVec 1) : BusRead :=
  let mask := if q = 0 then b.pads.mask.r0 else b.pads.mask.r1
  let shift := if q = 0 then b.pads.shift0 else b.pads.shift1
  let bit := fun (w : Word) => (b.latch &&& 0xFE) ||| (if w.getLsbD 15 then 1 else 0)
  if b.pads.strobe then { v := bit mask, bus := b }
  else
    let next := shift <<< 1 ||| 1
    let pads := if q = 0 then { b.pads with shift0 := next } else { b.pads with shift1 := next }
    { v := bit shift, bus := { b with pads := pads } }

/-- A write of controller port `q` (20_memory.md R89). Writes to 0x4017 are ignored. -/
def Pads.write (pads : Pads) (q : BitVec 1) (v : Byte) : Pads :=
  if q = 0 then
    if v.getLsbD 0 then { pads with strobe := true }
    else if pads.strobe then { pads with strobe := false, shift0 := pads.mask.r0, shift1 := pads.mask.r1 }
    else { pads with strobe := false }
  else pads

/-- A read of a target, before the latch is updated (20_memory.md R84 to R97). -/
def Bus.readTarget (b : Bus) : Target → BusRead
  | .wram k => { v := Memory.read b.wram k, bus := b }
  | .rom k => { v := Memory.read b.cart.rom k, bus := b }
  | .sram k => { v := Memory.read b.sram k, bus := b }
  | .ppu _ => { v := Config.freeByte b.draws, bus := { b with draws := b.draws + 1 } }
  | .mailbox p => { v := b.fromApu.get p, bus := b }
  | .wramPort r =>
    if r = 0 then { v := Memory.read b.wram b.wramPtr.toNat, bus := { b with wramPtr := b.wramPtr + 1 } }
    else { v := b.latch, bus := b }
  | .serial q => b.readSerial q
  | .platform r => b.readPlatform r
  | .dma c r => { v := ((b.dma.get c).read r).getD b.latch, bus := b }
  | .unmapped => { v := b.latch, bus := b }

/-- A read through a decoded target: the access, then the latch (20_memory.md R82, R97). -/
def Bus.readAt (b : Bus) (t : Target) : BusRead :=
  let r := b.readTarget t
  { v := r.v, bus := { r.bus with latch := r.v } }

/-- `MemRead(addr, 1)` (20_memory.md R82). -/
def Bus.read (b : Bus) (addr : Addr) : BusRead := b.readAt (busTarget b.cfg b.cart addr)

/-- The byte `MemRead(addr, 1)` would return, without performing the access. -/
def Bus.peek (b : Bus) (addr : Addr) : Byte := (b.read addr).v

/-- NMITIMEN after a write of `v` (60_exceptions.md R416): bits 5:4 = 00 drop the timer flag; bit 7 going 0 to 1 during
VBlank raises an NMI only under `NMI_ON_LATE_ENABLE` (R406). -/
def Bus.writeNmitimen (b : Bus) (v : Byte) : Bus :=
  let late := b.cfg.nmiOnLateEnable && v.getLsbD 7 && !b.plat.nmitimen.getLsbD 7 && b.plat.rdnmi
  { b with
    plat := { b.plat with nmitimen := v, timeup := b.plat.timeup && !(v &&& 0x30 == 0) }
    nmiPending := b.nmiPending || late }

/-- A write of platform register 0x4200 + r, less what MDMAEN and HDMAEN start (60_exceptions.md R416 to R428). -/
def Bus.writePlatform (b : Bus) (r : BitVec 5) (v : Byte) : Bus :=
  match r.toNat with
  | 0x00 => b.writeNmitimen v
  | 0x01 => { b with plat := { b.plat with wrio := v } }
  | 0x02 => { b with plat := { b.plat with wrmpya := v } }
  | 0x03 => { b with plat := { b.plat with rdmpy := zext b.plat.wrmpya * zext v, rddiv := zext v } }
  | 0x04 => { b with plat := { b.plat with wrdiv := withLo b.plat.wrdiv v } }
  | 0x05 => { b with plat := { b.plat with wrdiv := withHi b.plat.wrdiv v } }
  | 0x06 =>
    if v = 0 then { b with plat := { b.plat with rddiv := 0xFFFF, rdmpy := b.plat.wrdiv } }
    else { b with plat := { b.plat with rddiv := b.plat.wrdiv / zext v, rdmpy := b.plat.wrdiv % zext v } }
  | 0x07 => { b with plat := { b.plat with htime := b.plat.htime.extractLsb' 8 1 ++ v } }
  | 0x08 => { b with plat := { b.plat with htime := v.extractLsb' 0 1 ++ b.plat.htime.extractLsb' 0 8 } }
  | 0x09 => { b with plat := { b.plat with vtime := b.plat.vtime.extractLsb' 8 1 ++ v } }
  | 0x0A => { b with plat := { b.plat with vtime := v.extractLsb' 0 1 ++ b.plat.vtime.extractLsb' 0 8 } }
  | 0x0C => { b with plat := { b.plat with hdmaen := v } }
  | 0x0D => { b with plat := { b.plat with memsel := v } }
  | _ => b

/-- A write of WRAM port register `r` (20_memory.md R88). -/
def Bus.writeWramPort (b : Bus) (r : BitVec 2) (v : Byte) : Bus :=
  if r = 0 then { b with wram := Memory.write b.wram b.wramPtr.toNat v, wramPtr := b.wramPtr + 1 }
  else if r = 1 then { b with wramPtr := b.wramPtr.extractLsb' 8 9 ++ v }
  else if r = 2 then { b with wramPtr := b.wramPtr.extractLsb' 16 1 ++ (v ++ b.wramPtr.extractLsb' 0 8) }
  else { b with wramPtr := v.extractLsb' 0 1 ++ b.wramPtr.extractLsb' 0 16 }

/-- A write of a target, before the latch is updated and less what MDMAEN and HDMAEN start (20_memory.md R84 to R96).
ROM and unmapped addresses ignore it (R95, R96); a PPU write changes no state here (R86). -/
def Bus.writeTarget (b : Bus) (t : Target) (v : Byte) : Bus :=
  match t with
  | .wram k => { b with wram := Memory.write b.wram k v }
  | .rom _ => b
  | .sram k => { b with sram := Memory.write b.sram k v }
  | .ppu _ => b
  | .mailbox p => { b with toApu := b.toApu.set p v }
  | .wramPort r => b.writeWramPort r v
  | .serial q => { b with pads := b.pads.write q v }
  | .platform r => b.writePlatform r v
  | .dma c r => { b with dma := b.dma.set c ((b.dma.get c).write r v) }
  | .unmapped => b

/-- A write through a decoded target: the access, then the latch (20_memory.md R82, R97). -/
def Bus.writeAt (b : Bus) (t : Target) (v : Byte) : Bus := { b.writeTarget t v with latch := v }

end Sys2Proof.Machine
end

