-- ==== Sys2Proof/Machine/Dma.lean ====
section
/-! DEFINITION. General DMA, HDMA and the full bus write, which starts them (60_exceptions.md R424, R425, R437 to R442; 20_memory.md R114). -/
namespace Sys2Proof.Machine

/-- The channels in ascending order (60_exceptions.md R424). -/
def channels : List (BitVec 3) := [0, 1, 2, 3, 4, 5, 6, 7]

/-- `Pattern(mode)` (60_exceptions.md R439). -/
def dmaPattern (mode : BitVec 3) : List Byte :=
  match mode.toNat with
  | 0 => [0]
  | 1 => [0, 1]
  | 2 => [0, 0]
  | 3 => [0, 0, 1, 1]
  | 4 => [0, 1, 2, 3]
  | 5 => [0, 1, 0, 1]
  | 6 => [0, 0]
  | _ => [0, 0, 1, 1]

/-- DMAP bits 2:0. -/
def Channel.mode (ch : Channel) : BitVec 3 := ch.dmap.setWidth 3

/-- DMAP bit 7: true moves from the B-bus to the A-bus. -/
def Channel.toA (ch : Channel) : Bool := ch.dmap.getLsbD 7

/-- DMAP bit 6: HDMA reads its data through a pointer. -/
def Channel.indirect (ch : Channel) : Bool := ch.dmap.getLsbD 6

/-- `a1t` after one byte: DMAP bits 4:3 are 00 increment, 10 decrement, 01 and 11 fixed (60_exceptions.md R437). -/
def Channel.nextA1t (ch : Channel) : Word :=
  if ch.dmap.getLsbD 3 then ch.a1t
  else if ch.dmap.getLsbD 4 then ch.a1t - 1
  else ch.a1t + 1

/-- Replace the registers of channel `c`. -/
def Bus.withChannel (b : Bus) (c : BitVec 3) (ch : Channel) : Bus := { b with dma := b.dma.set c ch }

/-- What an A-bus address selects for DMA: the register ranges of the system banks are excluded (60_exceptions.md R438, D40). -/
def aBusTarget (cfg : Config) (cart : Cartridge) (addr : Addr) : Target :=
  let off := (offOf addr).toNat
  if systemBank (bankOf addr).toNat = true ∧ ((0x2100 ≤ off ∧ off ≤ 0x21FF) ∨ (0x4000 ≤ off ∧ off ≤ 0x43FF)) then .unmapped
  else busTarget cfg cart addr

/-- What B-bus address `r` selects (20_memory.md R114). -/
def bBusTarget (r : Byte) : Target :=
  if r.toNat ≤ 0x3F then .ppu r.toNat
  else if r.toNat ≤ 0x7F then .mailbox (r.setWidth 2)
  else if r.toNat ≤ 0x83 then .wramPort (r.setWidth 2)
  else .unmapped

/-- `ReadA` (60_exceptions.md R438). -/
def Bus.readA (b : Bus) (addr : Addr) : BusRead := b.readAt (aBusTarget b.cfg b.cart addr)

/-- `WriteA` (60_exceptions.md R438). -/
def Bus.writeA (b : Bus) (addr : Addr) (v : Byte) : Bus := b.writeAt (aBusTarget b.cfg b.cart addr) v

/-- `ReadB` (20_memory.md R114). -/
def Bus.readB (b : Bus) (r : Byte) : BusRead := b.readAt (bBusTarget r)

/-- `WriteB` (20_memory.md R114). -/
def Bus.writeB (b : Bus) (r : Byte) (v : Byte) : Bus := b.writeAt (bBusTarget r) v

/-- One byte moved between A-bus address `a` and B-bus address `r` in a channel's direction (60_exceptions.md R438, R441). -/
def Bus.moveByte (b : Bus) (toA : Bool) (a : Addr) (r : Byte) : Bus :=
  if toA then
    let x := b.readB r
    x.bus.writeA a x.v
  else
    let x := b.readA a
    x.bus.writeB r x.v

/-- Byte number `n` of a general DMA on channel `c` (60_exceptions.md R438, the loop body). -/
def Bus.dmaByte (c : BitVec 3) (n : Nat) (b : Bus) : Bus :=
  let ch := b.dma.get c
  let pat := dmaPattern ch.mode
  let b1 := b.moveByte ch.toA (mkAddr ch.a1b ch.a1t) (ch.bbad + pat.getD (n % pat.length) 0)
  b1.withChannel c { ch with a1t := ch.nextA1t, das := ch.das - 1 }

/-- `k` bytes of a general DMA on channel `c`, the first of them byte number `n`. -/
def Bus.dmaLoop (c : BitVec 3) : Nat → Nat → Bus → Bus
  | 0, _, b => b
  | k + 1, n, b => Bus.dmaLoop c k (n + 1) (b.dmaByte c n)

/-- The bytes a general DMA moves: `das`, or 65536 when it is 0 (60_exceptions.md R438). -/
def Channel.count (ch : Channel) : Nat := if ch.das = 0 then 65536 else ch.das.toNat

/-- `RunDMA(c)` (60_exceptions.md R438). -/
def Bus.runDma (b : Bus) (c : BitVec 3) : Bus := Bus.dmaLoop c (b.dma.get c).count 0 b

/-- General DMA on every channel a mask selects, in ascending order (60_exceptions.md R424). -/
def Bus.runDmaMask (b : Bus) (mask : Byte) : Bus :=
  channels.foldl (fun b c => if mask.getLsbD c.toNat then b.runDma c else b) b

/-- What a write of `v` to MDMAEN starts (60_exceptions.md R424, R438): the transfers now, or after the slice, each write with
1-bits transfers of its own. -/
def Bus.startDma (b : Bus) (v : Byte) : Bus :=
  match b.cfg.dmaTiming with
  | .immediate => b.runDmaMask v
  | .afterSlice => { b with dmaPending := if v = 0 then b.dmaPending else b.dmaPending ++ [v] }

/-- Read the indirect pointer of channel `c` into `das` (60_exceptions.md R440, R441). -/
def Bus.hdmaPointer (c : BitVec 3) (b : Bus) : Bus :=
  let ch := b.dma.get c
  let lo := b.readA (mkAddr ch.a1b ch.a2a)
  let hi := lo.bus.readA (mkAddr ch.a1b (ch.a2a + 1))
  hi.bus.withChannel c { ch with a2a := ch.a2a + 2, das := mkWord hi.v lo.v }

/-- Read a header of channel `c` at `a2a`, and in indirect mode the pointer after it; the pointer after a header of 0 is
read only at initialisation (60_exceptions.md R440, R441). -/
def Bus.hdmaHeader (c : BitVec 3) (init : Bool) (b : Bus) : Bus :=
  let ch := b.dma.get c
  let h := b.readA (mkAddr ch.a1b ch.a2a)
  let b1 := h.bus.withChannel c
    { ch with a2a := ch.a2a + 1, ntrl := h.v, terminated := h.v == 0, doTransfer := !(h.v == 0) }
  if ch.indirect && (init || !(h.v == 0)) then b1.hdmaPointer c else b1

/-- `HDMAInit(c)` (60_exceptions.md R440). -/
def Bus.hdmaInit (c : BitVec 3) (b : Bus) : Bus :=
  let ch := b.dma.get c
  (b.withChannel c { ch with a2a := ch.a1t }).hdmaHeader c true

/-- Initialise the channels a mask selects (60_exceptions.md R440). DESIGN CHOICE (log 28): in ascending order, where R440 gives none. -/
def Bus.hdmaInitMask (b : Bus) (mask : Byte) : Bus :=
  channels.foldl (fun b c => if mask.getLsbD c.toNat then b.hdmaInit c else b) b

/-- One byte of an HDMA unit, to or from B-bus offset `off` of the channel (60_exceptions.md R441). -/
def Bus.hdmaByte (c : BitVec 3) (b : Bus) (off : Byte) : Bus :=
  let ch := b.dma.get c
  if ch.indirect then
    (b.moveByte ch.toA (mkAddr ch.dasb ch.das) (ch.bbad + off)).withChannel c { ch with das := ch.das + 1 }
  else
    (b.moveByte ch.toA (mkAddr ch.a1b ch.a2a) (ch.bbad + off)).withChannel c { ch with a2a := ch.a2a + 1 }

/-- One HDMA unit: one byte for each entry of the channel's pattern (60_exceptions.md R439, R441). -/
def Bus.hdmaUnit (c : BitVec 3) (b : Bus) : Bus :=
  (dmaPattern (b.dma.get c).mode).foldl (Bus.hdmaByte c) b

/-- `HDMALine(c)` (60_exceptions.md R441). -/
def Bus.hdmaLine (c : BitVec 3) (b : Bus) : Bus :=
  let b1 := if (b.dma.get c).doTransfer then b.hdmaUnit c else b
  let ch := b1.dma.get c
  let ntrl := ch.ntrl - 1
  let b2 := b1.withChannel c { ch with ntrl := ntrl, doTransfer := ntrl.getLsbD 7 }
  if ntrl &&& 0x7F == 0 then b2.hdmaHeader c false else b2

/-- HDMA of one scanline: the enabled channels that have not terminated, in ascending order (60_exceptions.md R441). -/
def Bus.hdmaLines (b : Bus) : Bus :=
  channels.foldl (fun b c => if b.plat.hdmaen.getLsbD c.toNat && !(b.dma.get c).terminated then b.hdmaLine c else b) b

/-- `MemWrite(addr, 1, v)` (20_memory.md R82). After the write and its latch update, a write of MDMAEN starts general DMA
and a write of HDMAEN initialises HDMA (60_exceptions.md R424, R425; log 12). -/
def Bus.write (b : Bus) (addr : Addr) (v : Byte) : Bus :=
  let t := busTarget b.cfg b.cart addr
  let b1 := b.writeAt t v
  if t = .platform 0x0B then b1.startDma v
  else if t = .platform 0x0C then b1.hdmaInitMask v
  else b1

end Sys2Proof.Machine
end

