-- ==== Sys2Proof/Machine/Flags.lean ====
section
/-! DEFINITION. The status byte P and every flag computation (10_state.md R46 to R48, 00_scope.md R13, 43_arithmetic.md R240 to R244, 44_logic_shift.md R263 to R269). -/
namespace Sys2Proof.Machine

/-- The flags of P (10_state.md R46). -/
inductive Flag where
  | n
  | v
  | m
  | x
  | d
  | i
  | z
  | c
  deriving DecidableEq, Repr

/-- The bit of P that holds a flag (10_state.md R46). -/
def Flag.bit : Flag → Nat
  | .n => 7
  | .v => 6
  | .m => 5
  | .x => 4
  | .d => 3
  | .i => 2
  | .z => 1
  | .c => 0

/-- The byte with only a flag's bit set. -/
def Flag.mask (f : Flag) : Byte := 1#8 <<< f.bit

/-- The value of a flag in a status byte. -/
def flagOf (p : Byte) (f : Flag) : Bool := p.getLsbD f.bit

/-- A status byte with one flag written. -/
def withFlag (p : Byte) (f : Flag) (b : Bool) : Byte := if b then p ||| f.mask else p &&& ~~~f.mask

/-- `SetNZ_w(v)` (00_scope.md R13). -/
def setNZ (w : Width) (v : Word) (p : Byte) : Byte :=
  withFlag (withFlag p .n (w.msb v)) .z (w.trunc v == 0)

/-- What the add core returns: the result at its width, C and V (43_arithmetic.md R241). -/
structure AddResult where
  r : Word
  c : Bool
  v : Bool
  deriving DecidableEq, Repr

/-- The correction of digit `k - 1` and the addition of digit `k` of the decimal add (43_arithmetic.md R241, the loop
body; with 8 bits it runs for `k = 1`, with 16 bits for `k` from 1 to 3). -/
def decimalDigit (a b : Nat) (sub : Bool) (k : Nat) (r : Int) : Int :=
  let lim : Int := 16 ^ k
  let adj : Int := 6 * 16 ^ (k - 1)
  let r1 := if !sub && decide (r > 10 * 16 ^ (k - 1) - 1) then r + adj else r
  let r2 := if sub && decide (r1 ≤ lim - 1) then r1 - adj else r1
  let cy : Int := if r2 > lim - 1 then 1 else 0
  let mask : Nat := 0xF * 16 ^ k
  ((a &&& mask : Nat) : Int) + ((b &&& mask : Nat) : Int) + cy * lim + r2 % lim

/-- The sum before the last correction of the decimal add (43_arithmetic.md R241). -/
def decimalSum (a b c : Nat) (w : Width) (sub : Bool) : Int :=
  let r : Int := ((a % 16 + b % 16 + c : Nat) : Int)
  match w with
  | .b8 => decimalDigit a b sub 1 r
  | .b16 => decimalDigit a b sub 3 (decimalDigit a b sub 2 (decimalDigit a b sub 1 r))

/-- `AddCore(a, b, c, w, dec, sub)` of 43_arithmetic.md R241, over unbounded integers. -/
def addCore (a b : Word) (c : Bool) (w : Width) (dec sub : Bool) : AddResult :=
  let r : Int :=
    if dec then decimalSum a.toNat b.toNat c.toNat w sub else ((a.toNat + b.toNat + c.toNat : Nat) : Int)
  let unit : Int := 16 ^ (w.bits / 4 - 1)
  let top : Int := 2 ^ w.bits - 1
  let v := w.msb (~~~(a ^^^ b) &&& (a ^^^ BitVec.ofInt 16 r))
  let r1 := if dec && !sub && decide (r > 10 * unit - 1) then r + 6 * unit else r
  let r2 := if dec && sub && decide (r1 ≤ top) then r1 - 6 * unit else r1
  { r := w.trunc (BitVec.ofInt 16 r2), c := decide (r2 > top), v := v }

/-- P after ADC or SBC (43_arithmetic.md R242, R243): C and V of the add core, N and Z of its result. -/
def addFlags (w : Width) (t : AddResult) (p : Byte) : Byte :=
  setNZ w t.r (withFlag (withFlag p .c t.c) .v t.v)

/-- P after `Compare(r, b, w)` of unsigned w-bit values (43_arithmetic.md R244). -/
def compareFlags (w : Width) (r b : Word) (p : Byte) : Byte :=
  setNZ w (w.trunc (r - b)) (withFlag p .c (decide (b ≤ r)))

/-- P after BIT with a memory operand (44_logic_shift.md R263): Z from `Aw & v`, N and V from the operand's top bits. -/
def bitFlags (w : Width) (a v : Word) (p : Byte) : Byte :=
  withFlag (withFlag (withFlag p .z (a &&& v == 0)) .n (v.getLsbD (w.bits - 1))) .v (v.getLsbD (w.bits - 2))

/-- P after BIT with an immediate (44_logic_shift.md R263): Z only. -/
def bitImmFlags (a v : Word) (p : Byte) : Byte := withFlag p .z (a &&& v == 0)

/-- A read-modify-write function: the new value of an operand and the new P (40_addressing.md R195). -/
structure Modified where
  value : Word
  p : Byte
  deriving DecidableEq, Repr

/-- INC (43_arithmetic.md R248). -/
def incValue (w : Width) (p : Byte) (v : Word) : Modified :=
  let r := w.trunc (v + 1)
  { value := r, p := setNZ w r p }

/-- DEC (43_arithmetic.md R251). -/
def decValue (w : Width) (p : Byte) (v : Word) : Modified :=
  let r := w.trunc (v - 1)
  { value := r, p := setNZ w r p }

/-- TSB with accumulator `a` (44_logic_shift.md R264). -/
def tsbValue (a : Word) (p : Byte) (v : Word) : Modified :=
  { value := v ||| a, p := withFlag p .z (a &&& v == 0) }

/-- TRB with accumulator `a` (44_logic_shift.md R265). -/
def trbValue (a : Word) (p : Byte) (v : Word) : Modified :=
  { value := v &&& ~~~a, p := withFlag p .z (a &&& v == 0) }

/-- ASL (44_logic_shift.md R266). -/
def aslValue (w : Width) (p : Byte) (v : Word) : Modified :=
  let r := w.trunc (v <<< 1)
  { value := r, p := setNZ w r (withFlag p .c (w.msb v)) }

/-- LSR (44_logic_shift.md R267). -/
def lsrValue (w : Width) (p : Byte) (v : Word) : Modified :=
  let r := v >>> 1
  { value := r, p := setNZ w r (withFlag p .c (v.getLsbD 0)) }

/-- ROL (44_logic_shift.md R268). -/
def rolValue (w : Width) (p : Byte) (v : Word) : Modified :=
  let c : Word := if flagOf p .c then 1 else 0
  let r := w.trunc (v <<< 1 ||| c)
  { value := r, p := setNZ w r (withFlag p .c (w.msb v)) }

/-- ROR (44_logic_shift.md R269). -/
def rorValue (w : Width) (p : Byte) (v : Word) : Modified :=
  let c : Word := if flagOf p .c then 1 else 0
  let r := v >>> 1 ||| c <<< (w.bits - 1)
  { value := r, p := setNZ w r (withFlag p .c (v.getLsbD 0)) }

end Sys2Proof.Machine
end

