-- ==== Sys2Proof/Machine/Regs.lean ====
section
/-! DEFINITION. Reads and writes of the processor's registers and flags (00_scope.md R11, R13; 10_state.md R41 to R49). -/
namespace Sys2Proof.Machine

/-- The value of a flag. -/
def Cpu.flag (c : Cpu) (f : Flag) : Bool := flagOf c.p f

/-- `P.f <- b`. -/
def Cpu.setFlag (c : Cpu) (f : Flag) (b : Bool) : Cpu := { c with p := withFlag c.p f b }

/-- The width `m` (00_scope.md R11). -/
def Cpu.m (c : Cpu) : Width := if c.flag .m then .b8 else .b16

/-- The width `x` (00_scope.md R11). -/
def Cpu.xw (c : Cpu) : Width := if c.flag .x then .b8 else .b16

/-- `Aw` (00_scope.md R11). -/
def Cpu.acc (c : Cpu) : Word := c.m.trunc c.a

/-- `Xw` (00_scope.md R11). -/
def Cpu.xr (c : Cpu) : Word := c.xw.trunc c.x

/-- `Yw` (00_scope.md R11). -/
def Cpu.yr (c : Cpu) : Word := c.xw.trunc c.y

/-- `Aw <- v` (00_scope.md R11). -/
def Cpu.setAcc (c : Cpu) (v : Word) : Cpu := { c with a := c.m.merge c.a v }

/-- `Xw <- v` (00_scope.md R11). -/
def Cpu.setX (c : Cpu) (v : Word) : Cpu := { c with x := c.xw.merge c.x v }

/-- `Yw <- v` (00_scope.md R11). -/
def Cpu.setY (c : Cpu) (v : Word) : Cpu := { c with y := c.xw.merge c.y v }

/-- `SetNZ_w(v)` (00_scope.md R13). -/
def Cpu.setNZ (c : Cpu) (w : Width) (v : Word) : Cpu := { c with p := Machine.setNZ w v c.p }

/-- `SL <- v` (00_scope.md R11). -/
def Cpu.setSL (c : Cpu) (v : Byte) : Cpu := { c with s := mkWord (hiByte c.s) v }

/-- XH and YH cleared (10_state.md R42). -/
def Cpu.clearXY (c : Cpu) : Cpu := { c with x := zext (loByte c.x), y := zext (loByte c.y) }

/-- `SetP(v)` (10_state.md R49). -/
def Cpu.setP (c : Cpu) (v : Byte) : Cpu :=
  let p := if c.e then withFlag (withFlag v .m true) .x true else v
  let c1 := { c with p := p }
  if c1.flag .x then c1.clearXY else c1

/-- The emulation invariant restored on entering emulation mode (47_status_system.md R339, 70_reset_and_hazards.md R501):
M = X = 1, XH = YH = 0x00, SH = 0x01. -/
def Cpu.forceEmulation (c : Cpu) : Cpu :=
  { c.clearXY with p := withFlag (withFlag c.p .m true) .x true, s := mkWord 0x01 (loByte c.s) }

end Sys2Proof.Machine
end

