-- ==== Sys2Proof/Machine/Ops.lean ====
section
/-! DEFINITION. The named operations over memory and registers: bus accesses, fetch, locators, loads and stores, read-modify-write, the stack, taking an interrupt, returning from one, and the reset sequence (30_encoding.md R143; 40_addressing.md R170, R171, R194 to R197; 60_exceptions.md R401 to R404; 70_reset_and_hazards.md R501). -/
namespace Sys2Proof.Machine

/-- A state with other processor registers. -/
def State.withCpu (s : State) (c : Cpu) : State := { s with cpu := c }

/-- A state with another bus. -/
def State.withBus (s : State) (b : Bus) : State := { s with bus := b }

/-- A byte an operation returns and the state after it. -/
structure ByteRead where
  v : Byte
  st : State
  deriving DecidableEq, Repr

/-- A word an operation returns and the state after it. -/
structure WordRead where
  v : Word
  st : State
  deriving DecidableEq, Repr

/-- A 24-bit value an operation returns and the state after it. -/
structure AddrRead where
  v : Addr
  st : State
  deriving DecidableEq, Repr

/-- `MemRead(addr, 1)` by the processor (20_memory.md R82). -/
def State.readByte (s : State) (a : Addr) : ByteRead :=
  let r := s.bus.read a
  { v := r.v, st := s.withBus r.bus }

/-- `MemWrite(addr, 1, v)` by the processor (20_memory.md R82). -/
def State.writeByte (s : State) (a : Addr) (v : Byte) : State := s.withBus (s.bus.write a v)

/-- `Fetch8()` (30_encoding.md R143). -/
def State.fetch8 (s : State) : ByteRead :=
  let r := s.readByte (mkAddr s.cpu.pb s.cpu.pc)
  { v := r.v, st := r.st.withCpu { s.cpu with pc := s.cpu.pc + 1 } }

/-- A locator: a class and the base of its class (40_addressing.md R170). -/
inductive Loc where
  /-- Class L. -/
  | long (base : Addr)
  /-- Class Z. -/
  | bank0 (base : Word)
  /-- Class Pb. -/
  | prog (base : Word)
  /-- Class Dir. -/
  | dir (off : Word)
  /-- Class DirN. -/
  | dirN (off : Word)
  deriving DecidableEq, Repr

/-- `DP(off)` (40_addressing.md R171). -/
def dpOffset (cfg : Config) (c : Cpu) (off : Word) : Word :=
  if c.e && loByte c.d == 0 && cfg.emuDpPageWrap then mkWord (hiByte c.d) (loByte off) else c.d + off

/-- `DPN(off)` (40_addressing.md R171). -/
def dpnOffset (c : Cpu) (off : Word) : Word := c.d + off

/-- `Addr(loc, i)` (40_addressing.md R170). -/
def Loc.addr (cfg : Config) (c : Cpu) (l : Loc) (i : Nat) : Addr :=
  match l with
  | .long base => base + BitVec.ofNat 24 i
  | .bank0 base => mkAddr 0 (base + BitVec.ofNat 16 i)
  | .prog base => mkAddr c.pb (base + BitVec.ofNat 16 i)
  | .dir off => mkAddr 0 (dpOffset cfg c (off + BitVec.ofNat 16 i))
  | .dirN off => mkAddr 0 (dpnOffset c (off + BitVec.ofNat 16 i))

/-- The address of byte `i` at a locator in a state. -/
def State.addrOf (s : State) (l : Loc) (i : Nat) : Addr := l.addr s.bus.cfg s.cpu i

/-- `Load(loc, 16)` (40_addressing.md R194). -/
def State.load16 (s : State) (l : Loc) : WordRead :=
  let lo := s.readByte (s.addrOf l 0)
  let hi := lo.st.readByte (s.addrOf l 1)
  { v := mkWord hi.v lo.v, st := hi.st }

/-- `Load(loc, 24)` (40_addressing.md R194). -/
def State.load24 (s : State) (l : Loc) : AddrRead :=
  let w := s.load16 l
  let bk := w.st.readByte (s.addrOf l 2)
  { v := mkAddr bk.v w.v, st := bk.st }

/-- `Load(loc, w)` of a data operand (40_addressing.md R194). -/
def State.load (s : State) (w : Width) (l : Loc) : WordRead :=
  match w with
  | .b8 =>
    let r := s.readByte (s.addrOf l 0)
    { v := zext r.v, st := r.st }
  | .b16 => s.load16 l

/-- Where `Store` writes its second byte: the locator's next address (40_addressing.md R194; 20_memory.md R105, first clause).
DESIGN CHOICE (log 27): R105 goes on to send both bytes of a 16-bit store at WMDATA through WMDATA, which R88 and R105's own first
clause contradict; that reading is the value true of `wideWmdata`. -/
def State.secondStoreAddr (s : State) (l : Loc) : Addr :=
  if s.bus.cfg.wideWmdata && busTarget s.bus.cfg s.bus.cart (s.addrOf l 0) == .wramPort 0 then s.addrOf l 0 else s.addrOf l 1

/-- `Store(loc, w, v)` (40_addressing.md R194): low byte first. -/
def State.store (s : State) (w : Width) (l : Loc) (v : Word) : State :=
  match w with
  | .b8 => s.writeByte (s.addrOf l 0) (loByte v)
  | .b16 => (s.writeByte (s.addrOf l 0) (loByte v)).writeByte (s.secondStoreAddr l) (hiByte v)

/-- The write of `Modify` (40_addressing.md R195): high byte first. -/
def State.storeBack (s : State) (w : Width) (l : Loc) (v : Word) : State :=
  match w with
  | .b8 => s.writeByte (s.addrOf l 0) (loByte v)
  | .b16 => (s.writeByte (s.addrOf l 1) (hiByte v)).writeByte (s.addrOf l 0) (loByte v)

/-- `Modify(loc, w, f)` (40_addressing.md R195). -/
def State.modify (s : State) (w : Width) (l : Loc) (f : Byte → Word → Modified) : State :=
  let r := s.load w l
  let t := f r.st.cpu.p r.v
  (r.st.withCpu { r.st.cpu with p := t.p }).storeBack w l t.value

/-- The stack pointer after a push (40_addressing.md R196). `nw` is `NoWrapOp`. -/
def Cpu.pushed (nw : Bool) (c : Cpu) : Cpu :=
  if c.e && !nw then c.setSL (loByte c.s - 1) else { c with s := c.s - 1 }

/-- The stack pointer after the increment of a pull (40_addressing.md R197). -/
def Cpu.pulled (nw : Bool) (c : Cpu) : Cpu :=
  if c.e && !nw then c.setSL (loByte c.s + 1) else { c with s := c.s + 1 }

/-- `Push8(v)` (40_addressing.md R196). -/
def State.push8 (nw : Bool) (v : Byte) (s : State) : State :=
  (s.writeByte (mkAddr 0 s.cpu.s) v).withCpu (s.cpu.pushed nw)

/-- `Push16(v)` (40_addressing.md R196): high byte first. -/
def State.push16 (nw : Bool) (v : Word) (s : State) : State :=
  (s.push8 nw (hiByte v)).push8 nw (loByte v)

/-- `Pull8()` (40_addressing.md R197). -/
def State.pull8 (nw : Bool) (s : State) : ByteRead :=
  let c := s.cpu.pulled nw
  (s.withCpu c).readByte (mkAddr 0 c.s)

/-- `Pull16()` (40_addressing.md R197): low byte first. -/
def State.pull16 (nw : Bool) (s : State) : WordRead :=
  let lo := s.pull8 nw
  let hi := lo.st.pull8 nw
  { v := mkWord hi.v lo.v, st := hi.st }

/-- `Pull24()` (40_addressing.md R197). -/
def State.pull24 (nw : Bool) (s : State) : AddrRead :=
  let w := s.pull16 nw
  let bk := w.st.pull8 nw
  { v := mkAddr bk.v w.v, st := bk.st }

/-- `NoWrapOp` of the instructions 40_addressing.md R196 lists: true only under `EMU_STACK_NEW_OPS_NOWRAP`. -/
def State.noWrap (s : State) : Bool := s.bus.cfg.emuStackNewOpsNoWrap

/-- What a `NoWrapOp` does after its last stack access (40_addressing.md R196): `SH <- 0x01` when E = 1. -/
def State.endNoWrap (s : State) : State :=
  if s.noWrap && s.cpu.e then s.withCpu { s.cpu with s := mkWord 0x01 (loByte s.cpu.s) } else s

/-- The entry events that push (60_exceptions.md R400). -/
inductive IntKind where
  | brk
  | cop
  | nmi
  | irq
  deriving DecidableEq, Repr

/-- `Vector(kind, E)` (60_exceptions.md R401). -/
def IntKind.vector (k : IntKind) (e : Bool) : Word :=
  match k, e with
  | .cop, false => 0xFFE4
  | .cop, true => 0xFFF4
  | .brk, false => 0xFFE6
  | .brk, true => 0xFFFE
  | .nmi, false => 0xFFEA
  | .nmi, true => 0xFFFA
  | .irq, false => 0xFFEE
  | .irq, true => 0xFFFE

/-- A hardware event, whose pushed P has bit 4 clear in emulation mode (60_exceptions.md R402). -/
def IntKind.hardware : IntKind → Bool
  | .brk => false
  | .cop => false
  | .nmi => true
  | .irq => true

/-- The copy of P an entry pushes (60_exceptions.md R402, R403). -/
def IntKind.pushedP (k : IntKind) (c : Cpu) : Byte := if c.e && k.hardware then c.p &&& 0xEF else c.p

/-- The stack of an interrupt entry (60_exceptions.md R402): PB in native mode only, then PC, then P. -/
def State.pushFrame (k : IntKind) (s : State) : State :=
  let s1 := if s.cpu.e then s else s.push8 false s.cpu.pb
  (s1.push16 false s.cpu.pc).push8 false (k.pushedP s.cpu)

/-- `Interrupt(kind)` (60_exceptions.md R402): taking BRK, COP, NMI or IRQ. -/
def State.interrupt (k : IntKind) (s : State) : State :=
  let s1 := s.pushFrame k
  let s2 := s1.withCpu { (s1.cpu.setFlag .i true).setFlag .d false with pb := 0 }
  let t := s2.load16 (.bank0 (k.vector s.cpu.e))
  t.st.withCpu { t.st.cpu with pc := t.v }

/-- The return from an interrupt (47_status_system.md R344): P, PC and, in native mode, PB. -/
def State.returnFromInterrupt (s : State) : State :=
  let p := s.pull8 false
  let s1 := p.st.withCpu (p.st.cpu.setP p.v)
  let t := s1.pull16 false
  let s2 := t.st.withCpu { t.st.cpu with pc := t.v }
  if s2.cpu.e then s2
  else
    let bk := s2.pull8 false
    bk.st.withCpu { bk.st.cpu with pb := bk.v }

/-- The platform registers reset sets (60_exceptions.md R445); `rddiv` and `rdmpy` keep their values (D17, D18; log 15). -/
def Platform.afterReset (pl : Platform) : Platform := { Platform.reset with rddiv := pl.rddiv, rdmpy := pl.rdmpy }

/-- The bus after reset, before the vector is read (60_exceptions.md R445, 70_reset_and_hazards.md R501). State the spec
leaves unwritten keeps its value (D18), and pending `after_slice` transfers are dropped (log 15). -/
def Bus.afterReset (b : Bus) : Bus :=
  { b with
    plat := b.plat.afterReset
    dma := b.dma.map fun ch => { ch with doTransfer := false, terminated := true }
    dmaPending := []
    nmiPending := false }

/-- The processor after reset, before PC is loaded (70_reset_and_hazards.md R501). No block move is in progress (log 29). -/
def Cpu.afterReset (c : Cpu) : Cpu :=
  let c1 := ({ c with e := true }).forceEmulation
  { (c1.setFlag .d false).setFlag .i true with d := 0, db := 0, pb := 0, run := .running, moves := [] }

/-- `ResetSequence()` (70_reset_and_hazards.md R501). -/
def State.resetSequence (s : State) : State :=
  let s1 := (s.withCpu s.cpu.afterReset).withBus s.bus.afterReset
  let t := s1.load16 (.bank0 0xFFFC)
  t.st.withCpu { t.st.cpu with pc := t.v }

end Sys2Proof.Machine
end

