-- ==== Sys2Proof/Machine/Operands.lean ====
section
/-! DEFINITION. Every data addressing mode and the operand an instruction reads through it (40_addressing.md R172 to R194). -/
namespace Sys2Proof.Machine

/-- The addressing modes of a memory operand, each with its operand field (40_addressing.md R173 to R188). -/
inductive MemMode where
  /-- `dp` (R173). -/
  | dp (dp : Byte)
  /-- `dp,X` (R174). -/
  | dpX (dp : Byte)
  /-- `dp,Y` (R174). -/
  | dpY (dp : Byte)
  /-- `(dp)` (R175). -/
  | dpInd (dp : Byte)
  /-- `(dp,X)` (R176). -/
  | dpXInd (dp : Byte)
  /-- `(dp),Y` (R177). -/
  | dpIndY (dp : Byte)
  /-- `[dp]` (R178). -/
  | dpIndLong (dp : Byte)
  /-- `[dp],Y` (R179). -/
  | dpIndLongY (dp : Byte)
  /-- `addr` (R180). -/
  | abs (addr : Word)
  /-- `addr,X` (R181). -/
  | absX (addr : Word)
  /-- `addr,Y` (R181). -/
  | absY (addr : Word)
  /-- `long` (R182). -/
  | long (long : Addr)
  /-- `long,X` (R183). -/
  | longX (long : Addr)
  /-- `sr,S` (R187). -/
  | sr (sr : Byte)
  /-- `(sr,S),Y` (R188). -/
  | srIndY (sr : Byte)
  deriving DecidableEq, Repr

/-- The addressing modes of an operand that is read (40_addressing.md R172 to R188). The accumulator (R192) is read and
written by `State.modifyAcc`. -/
inductive Mode where
  /-- `#const` (R172). -/
  | imm (v : Word)
  | mem (mode : MemMode)
  deriving DecidableEq, Repr

/-- An effective address and the state after the reads that formed it. -/
structure LocRead where
  loc : Loc
  st : State
  deriving DecidableEq, Repr

/-- A word zero-extended to an address, for an index added to a 24-bit base. -/
def zext24 (v : Word) : Addr := v.setWidth 24

/-- `EA(mode)` (40_addressing.md R173 to R188). -/
def State.ea (s : State) (mode : MemMode) : LocRead :=
  match mode with
  | .dp dp => { loc := .dir (zext dp), st := s }
  | .dpX dp => { loc := .dir (zext dp + s.cpu.x), st := s }
  | .dpY dp => { loc := .dir (zext dp + s.cpu.y), st := s }
  | .dpInd dp =>
    let p := s.load16 (.dir (zext dp))
    { loc := .long (mkAddr s.cpu.db p.v), st := p.st }
  | .dpXInd dp =>
    let p := s.load16 (.dir (zext dp + s.cpu.x))
    { loc := .long (mkAddr s.cpu.db p.v), st := p.st }
  | .dpIndY dp =>
    let p := s.load16 (.dir (zext dp))
    { loc := .long (mkAddr s.cpu.db p.v + zext24 s.cpu.y), st := p.st }
  | .dpIndLong dp =>
    let p := s.load24 (.dirN (zext dp))
    { loc := .long p.v, st := p.st }
  | .dpIndLongY dp =>
    let p := s.load24 (.dirN (zext dp))
    { loc := .long (p.v + zext24 s.cpu.y), st := p.st }
  | .abs addr => { loc := .long (mkAddr s.cpu.db addr), st := s }
  | .absX addr => { loc := .long (mkAddr s.cpu.db addr + zext24 s.cpu.x), st := s }
  | .absY addr => { loc := .long (mkAddr s.cpu.db addr + zext24 s.cpu.y), st := s }
  | .long long => { loc := .long long, st := s }
  | .longX long => { loc := .long (long + zext24 s.cpu.x), st := s }
  | .sr sr => { loc := .bank0 (s.cpu.s + zext sr), st := s }
  | .srIndY sr =>
    let p := s.load16 (.bank0 (s.cpu.s + zext sr))
    { loc := .long (mkAddr s.cpu.db p.v + zext24 s.cpu.y), st := p.st }

/-- `Operand(mode, w)` (40_addressing.md R194). Of an immediate the bytes the width has are taken (R172; log 20). -/
def State.operand (s : State) (w : Width) (mode : Mode) : WordRead :=
  match mode with
  | .imm v => { v := w.trunc v, st := s }
  | .mem mm =>
    let e := s.ea mm
    e.st.load w e.loc

/-- `Store(EA(mode), w, v)` (40_addressing.md R194). -/
def State.storeTo (s : State) (w : Width) (mode : MemMode) (v : Word) : State :=
  let e := s.ea mode
  e.st.store w e.loc v

/-- `Modify(EA(mode), w, f)` (40_addressing.md R195). -/
def State.modifyAt (s : State) (w : Width) (mode : MemMode) (f : Byte → Word → Modified) : State :=
  let e := s.ea mode
  e.st.modify w e.loc f

/-- A read-modify-write of the accumulator: `Aw <- f(Aw)` (40_addressing.md R192). -/
def State.modifyAcc (s : State) (f : Byte → Word → Modified) : State :=
  let t := f s.cpu.p s.cpu.acc
  s.withCpu { s.cpu.setAcc t.value with p := t.p }

end Sys2Proof.Machine
end

