-- ==== Sys2Proof/Machine/Arith.lean ====
section
/-! DEFINITION. Arithmetic: ADC, SBC, compares, increments and decrements (43_arithmetic.md R240 to R253). -/
namespace Sys2Proof.Machine

/-- ADC and SBC from their second addend `b` (43_arithmetic.md R242, R243). -/
def Cpu.addWith (c : Cpu) (b : Word) (sub : Bool) : Cpu :=
  let t := addCore c.acc b (c.flag .c) c.m (c.flag .d) sub
  { c.setAcc t.r with p := addFlags c.m t c.p }

/-- ADC (43_arithmetic.md R242). -/
def State.adc (s : State) (mode : Mode) : State :=
  let r := s.operand s.cpu.m mode
  r.st.withCpu (r.st.cpu.addWith r.v false)

/-- SBC (43_arithmetic.md R243): the second addend is `(~b) mod 2^m`. -/
def State.sbc (s : State) (mode : Mode) : State :=
  let r := s.operand s.cpu.m mode
  r.st.withCpu (r.st.cpu.addWith (s.cpu.m.trunc (~~~r.v)) true)

/-- The compare of a register value at width `w` with an operand (43_arithmetic.md R244). -/
def State.compare (s : State) (w : Width) (reg : Word) (mode : Mode) : State :=
  let r := s.operand w mode
  r.st.withCpu { r.st.cpu with p := compareFlags w reg r.v r.st.cpu.p }

/-- CMP (43_arithmetic.md R245). -/
def State.cmp (s : State) (mode : Mode) : State := s.compare s.cpu.m s.cpu.acc mode

/-- CPX (43_arithmetic.md R246). -/
def State.cpx (s : State) (mode : Mode) : State := s.compare s.cpu.xw s.cpu.xr mode

/-- CPY (43_arithmetic.md R247). -/
def State.cpy (s : State) (mode : Mode) : State := s.compare s.cpu.xw s.cpu.yr mode

/-- INX (43_arithmetic.md R249). -/
def Cpu.inx (c : Cpu) : Cpu := (c.setX (c.x + 1)).setNZ c.xw (c.x + 1)

/-- INY (43_arithmetic.md R250). -/
def Cpu.iny (c : Cpu) : Cpu := (c.setY (c.y + 1)).setNZ c.xw (c.y + 1)

/-- DEX (43_arithmetic.md R252). -/
def Cpu.dex (c : Cpu) : Cpu := (c.setX (c.x - 1)).setNZ c.xw (c.x - 1)

/-- DEY (43_arithmetic.md R253). -/
def Cpu.dey (c : Cpu) : Cpu := (c.setY (c.y - 1)).setNZ c.xw (c.y - 1)

/-- 0x61 ADC (dp,X) (43_arithmetic.md R242). -/
def execAdcDpXInd (dp : Byte) (s : State) : Out := .next (s.adc (.mem (.dpXInd dp)))

/-- 0x63 ADC sr,S (43_arithmetic.md R242). -/
def execAdcSr (sr : Byte) (s : State) : Out := .next (s.adc (.mem (.sr sr)))

/-- 0x65 ADC dp (43_arithmetic.md R242). -/
def execAdcDp (dp : Byte) (s : State) : Out := .next (s.adc (.mem (.dp dp)))

/-- 0x67 ADC [dp] (43_arithmetic.md R242). -/
def execAdcDpIndLong (dp : Byte) (s : State) : Out := .next (s.adc (.mem (.dpIndLong dp)))

/-- 0x69 ADC #const (width m) (43_arithmetic.md R242). -/
def execAdcImm (v : Word) (s : State) : Out := .next (s.adc (.imm v))

/-- 0x6D ADC addr (43_arithmetic.md R242). -/
def execAdcAbs (addr : Word) (s : State) : Out := .next (s.adc (.mem (.abs addr)))

/-- 0x6F ADC long (43_arithmetic.md R242). -/
def execAdcLong (long : Addr) (s : State) : Out := .next (s.adc (.mem (.long long)))

/-- 0x71 ADC (dp),Y (43_arithmetic.md R242). -/
def execAdcDpIndY (dp : Byte) (s : State) : Out := .next (s.adc (.mem (.dpIndY dp)))

/-- 0x72 ADC (dp) (43_arithmetic.md R242). -/
def execAdcDpInd (dp : Byte) (s : State) : Out := .next (s.adc (.mem (.dpInd dp)))

/-- 0x73 ADC (sr,S),Y (43_arithmetic.md R242). -/
def execAdcSrIndY (sr : Byte) (s : State) : Out := .next (s.adc (.mem (.srIndY sr)))

/-- 0x75 ADC dp,X (43_arithmetic.md R242). -/
def execAdcDpX (dp : Byte) (s : State) : Out := .next (s.adc (.mem (.dpX dp)))

/-- 0x77 ADC [dp],Y (43_arithmetic.md R242). -/
def execAdcDpIndLongY (dp : Byte) (s : State) : Out := .next (s.adc (.mem (.dpIndLongY dp)))

/-- 0x79 ADC addr,Y (43_arithmetic.md R242). -/
def execAdcAbsY (addr : Word) (s : State) : Out := .next (s.adc (.mem (.absY addr)))

/-- 0x7D ADC addr,X (43_arithmetic.md R242). -/
def execAdcAbsX (addr : Word) (s : State) : Out := .next (s.adc (.mem (.absX addr)))

/-- 0x7F ADC long,X (43_arithmetic.md R242). -/
def execAdcLongX (long : Addr) (s : State) : Out := .next (s.adc (.mem (.longX long)))

/-- 0xE1 SBC (dp,X) (43_arithmetic.md R243). -/
def execSbcDpXInd (dp : Byte) (s : State) : Out := .next (s.sbc (.mem (.dpXInd dp)))

/-- 0xE3 SBC sr,S (43_arithmetic.md R243). -/
def execSbcSr (sr : Byte) (s : State) : Out := .next (s.sbc (.mem (.sr sr)))

/-- 0xE5 SBC dp (43_arithmetic.md R243). -/
def execSbcDp (dp : Byte) (s : State) : Out := .next (s.sbc (.mem (.dp dp)))

/-- 0xE7 SBC [dp] (43_arithmetic.md R243). -/
def execSbcDpIndLong (dp : Byte) (s : State) : Out := .next (s.sbc (.mem (.dpIndLong dp)))

/-- 0xE9 SBC #const (width m) (43_arithmetic.md R243). -/
def execSbcImm (v : Word) (s : State) : Out := .next (s.sbc (.imm v))

/-- 0xED SBC addr (43_arithmetic.md R243). -/
def execSbcAbs (addr : Word) (s : State) : Out := .next (s.sbc (.mem (.abs addr)))

/-- 0xEF SBC long (43_arithmetic.md R243). -/
def execSbcLong (long : Addr) (s : State) : Out := .next (s.sbc (.mem (.long long)))

/-- 0xF1 SBC (dp),Y (43_arithmetic.md R243). -/
def execSbcDpIndY (dp : Byte) (s : State) : Out := .next (s.sbc (.mem (.dpIndY dp)))

/-- 0xF2 SBC (dp) (43_arithmetic.md R243). -/
def execSbcDpInd (dp : Byte) (s : State) : Out := .next (s.sbc (.mem (.dpInd dp)))

/-- 0xF3 SBC (sr,S),Y (43_arithmetic.md R243). -/
def execSbcSrIndY (sr : Byte) (s : State) : Out := .next (s.sbc (.mem (.srIndY sr)))

/-- 0xF5 SBC dp,X (43_arithmetic.md R243). -/
def execSbcDpX (dp : Byte) (s : State) : Out := .next (s.sbc (.mem (.dpX dp)))

/-- 0xF7 SBC [dp],Y (43_arithmetic.md R243). -/
def execSbcDpIndLongY (dp : Byte) (s : State) : Out := .next (s.sbc (.mem (.dpIndLongY dp)))

/-- 0xF9 SBC addr,Y (43_arithmetic.md R243). -/
def execSbcAbsY (addr : Word) (s : State) : Out := .next (s.sbc (.mem (.absY addr)))

/-- 0xFD SBC addr,X (43_arithmetic.md R243). -/
def execSbcAbsX (addr : Word) (s : State) : Out := .next (s.sbc (.mem (.absX addr)))

/-- 0xFF SBC long,X (43_arithmetic.md R243). -/
def execSbcLongX (long : Addr) (s : State) : Out := .next (s.sbc (.mem (.longX long)))

/-- 0xC1 CMP (dp,X) (43_arithmetic.md R245). -/
def execCmpDpXInd (dp : Byte) (s : State) : Out := .next (s.cmp (.mem (.dpXInd dp)))

/-- 0xC3 CMP sr,S (43_arithmetic.md R245). -/
def execCmpSr (sr : Byte) (s : State) : Out := .next (s.cmp (.mem (.sr sr)))

/-- 0xC5 CMP dp (43_arithmetic.md R245). -/
def execCmpDp (dp : Byte) (s : State) : Out := .next (s.cmp (.mem (.dp dp)))

/-- 0xC7 CMP [dp] (43_arithmetic.md R245). -/
def execCmpDpIndLong (dp : Byte) (s : State) : Out := .next (s.cmp (.mem (.dpIndLong dp)))

/-- 0xC9 CMP #const (width m) (43_arithmetic.md R245). -/
def execCmpImm (v : Word) (s : State) : Out := .next (s.cmp (.imm v))

/-- 0xCD CMP addr (43_arithmetic.md R245). -/
def execCmpAbs (addr : Word) (s : State) : Out := .next (s.cmp (.mem (.abs addr)))

/-- 0xCF CMP long (43_arithmetic.md R245). -/
def execCmpLong (long : Addr) (s : State) : Out := .next (s.cmp (.mem (.long long)))

/-- 0xD1 CMP (dp),Y (43_arithmetic.md R245). -/
def execCmpDpIndY (dp : Byte) (s : State) : Out := .next (s.cmp (.mem (.dpIndY dp)))

/-- 0xD2 CMP (dp) (43_arithmetic.md R245). -/
def execCmpDpInd (dp : Byte) (s : State) : Out := .next (s.cmp (.mem (.dpInd dp)))

/-- 0xD3 CMP (sr,S),Y (43_arithmetic.md R245). -/
def execCmpSrIndY (sr : Byte) (s : State) : Out := .next (s.cmp (.mem (.srIndY sr)))

/-- 0xD5 CMP dp,X (43_arithmetic.md R245). -/
def execCmpDpX (dp : Byte) (s : State) : Out := .next (s.cmp (.mem (.dpX dp)))

/-- 0xD7 CMP [dp],Y (43_arithmetic.md R245). -/
def execCmpDpIndLongY (dp : Byte) (s : State) : Out := .next (s.cmp (.mem (.dpIndLongY dp)))

/-- 0xD9 CMP addr,Y (43_arithmetic.md R245). -/
def execCmpAbsY (addr : Word) (s : State) : Out := .next (s.cmp (.mem (.absY addr)))

/-- 0xDD CMP addr,X (43_arithmetic.md R245). -/
def execCmpAbsX (addr : Word) (s : State) : Out := .next (s.cmp (.mem (.absX addr)))

/-- 0xDF CMP long,X (43_arithmetic.md R245). -/
def execCmpLongX (long : Addr) (s : State) : Out := .next (s.cmp (.mem (.longX long)))

/-- 0xE0 CPX #const (width x) (43_arithmetic.md R246). -/
def execCpxImm (v : Word) (s : State) : Out := .next (s.cpx (.imm v))

/-- 0xE4 CPX dp (43_arithmetic.md R246). -/
def execCpxDp (dp : Byte) (s : State) : Out := .next (s.cpx (.mem (.dp dp)))

/-- 0xEC CPX addr (43_arithmetic.md R246). -/
def execCpxAbs (addr : Word) (s : State) : Out := .next (s.cpx (.mem (.abs addr)))

/-- 0xC0 CPY #const (width x) (43_arithmetic.md R247). -/
def execCpyImm (v : Word) (s : State) : Out := .next (s.cpy (.imm v))

/-- 0xC4 CPY dp (43_arithmetic.md R247). -/
def execCpyDp (dp : Byte) (s : State) : Out := .next (s.cpy (.mem (.dp dp)))

/-- 0xCC CPY addr (43_arithmetic.md R247). -/
def execCpyAbs (addr : Word) (s : State) : Out := .next (s.cpy (.mem (.abs addr)))

/-- 0x1A INC A (43_arithmetic.md R248). -/
def execIncAcc (s : State) : Out := .next (s.modifyAcc (incValue s.cpu.m))

/-- 0xE6 INC dp (43_arithmetic.md R248). -/
def execIncDp (dp : Byte) (s : State) : Out := .next (s.modifyAt s.cpu.m (.dp dp) (incValue s.cpu.m))

/-- 0xEE INC addr (43_arithmetic.md R248). -/
def execIncAbs (addr : Word) (s : State) : Out := .next (s.modifyAt s.cpu.m (.abs addr) (incValue s.cpu.m))

/-- 0xF6 INC dp,X (43_arithmetic.md R248). -/
def execIncDpX (dp : Byte) (s : State) : Out := .next (s.modifyAt s.cpu.m (.dpX dp) (incValue s.cpu.m))

/-- 0xFE INC addr,X (43_arithmetic.md R248). -/
def execIncAbsX (addr : Word) (s : State) : Out := .next (s.modifyAt s.cpu.m (.absX addr) (incValue s.cpu.m))

/-- 0xE8 INX (43_arithmetic.md R249). -/
def execInx (s : State) : Out := .next (s.withCpu s.cpu.inx)

/-- 0xC8 INY (43_arithmetic.md R250). -/
def execIny (s : State) : Out := .next (s.withCpu s.cpu.iny)

/-- 0x3A DEC A (43_arithmetic.md R251). -/
def execDecAcc (s : State) : Out := .next (s.modifyAcc (decValue s.cpu.m))

/-- 0xC6 DEC dp (43_arithmetic.md R251). -/
def execDecDp (dp : Byte) (s : State) : Out := .next (s.modifyAt s.cpu.m (.dp dp) (decValue s.cpu.m))

/-- 0xCE DEC addr (43_arithmetic.md R251). -/
def execDecAbs (addr : Word) (s : State) : Out := .next (s.modifyAt s.cpu.m (.abs addr) (decValue s.cpu.m))

/-- 0xD6 DEC dp,X (43_arithmetic.md R251). -/
def execDecDpX (dp : Byte) (s : State) : Out := .next (s.modifyAt s.cpu.m (.dpX dp) (decValue s.cpu.m))

/-- 0xDE DEC addr,X (43_arithmetic.md R251). -/
def execDecAbsX (addr : Word) (s : State) : Out := .next (s.modifyAt s.cpu.m (.absX addr) (decValue s.cpu.m))

/-- 0xCA DEX (43_arithmetic.md R252). -/
def execDex (s : State) : Out := .next (s.withCpu s.cpu.dex)

/-- 0x88 DEY (43_arithmetic.md R253). -/
def execDey (s : State) : Out := .next (s.withCpu s.cpu.dey)

end Sys2Proof.Machine
end

