-- ==== Sys2Proof/Machine/BlockMove.lean ====
section
/-! DEFINITION. MVN and MVP, one byte a step (48_block_move.md R350 to R352). -/
namespace Sys2Proof.Machine

/-- The address of the opcode of the block move whose three bytes PC is past. -/
def Cpu.moveOpcode (c : Cpu) : Addr := mkAddr c.pb (c.pc - 3)

/-- The destination bank that a move in progress last fetched; none where the step begins a move. -/
def Cpu.moveInProgress (c : Cpu) : Option Byte := (c.moves.find? (·.opcode == c.moveOpcode)).map (·.bank)

/-- A move in progress finds DB other than it left it, so that something between two of its bytes changed it
(70_reset_and_hazards.md R505). -/
def State.moveDbChanged (s : State) : Option Byte :=
  if s.bus.cfg.moveKeepsDb then s.cpu.moveInProgress.filter (· != s.cpu.db) else none

/-- The destination bank of one step: the operand (48_block_move.md R350, R351). DESIGN CHOICE (log 29): R505 says that a DB which
a handler changed changes the rest of the move, which R350 and R351 contradict; under `moveKeepsDb` such a DB is the bank. -/
def State.moveBank (dbk : Byte) (s : State) : Byte := if s.moveDbChanged.isSome then s.cpu.db else dbk

/-- The moves in progress after one step, `left` saying that bytes remain; a changed DB is remembered by the bank it replaced
(log 29). -/
def State.movesAfter (dbk : Byte) (left : Bool) (s : State) : List MoveRecord :=
  if s.bus.cfg.moveKeepsDb then
    let rest := s.cpu.moves.filter (·.opcode != s.cpu.moveOpcode)
    if left then { opcode := s.cpu.moveOpcode, bank := s.moveDbChanged.getD dbk } :: rest else rest
  else s.cpu.moves

/-- One step of a block move, the offsets stepped by `next` at width x (48_block_move.md R350 to R352). -/
def State.blockMove (next : Width → Word → Word) (dbk sbk : Byte) (s : State) : State :=
  let bank := s.moveBank dbk
  let r := (s.withCpu { s.cpu with db := bank }).readByte (mkAddr sbk s.cpu.x)
  let s1 := r.st.writeByte (mkAddr bank s.cpu.y) r.v
  let c := (s1.cpu.setX (next s.cpu.xw s.cpu.x)).setY (next s.cpu.xw s.cpu.y)
  let a := s.cpu.a - 1
  s1.withCpu { c with
    a := a
    pc := if a = 0xFFFF then c.pc else c.pc - 3
    moves := s.movesAfter dbk (a != 0xFFFF) }

/-- 0x54 MVN destination bank, source bank (48_block_move.md R350). -/
def execMvn (dbk : Byte) (sbk : Byte) (s : State) : Out := .next (s.blockMove (fun w v => w.trunc (v + 1)) dbk sbk)

/-- 0x44 MVP destination bank, source bank (48_block_move.md R351). -/
def execMvp (dbk : Byte) (sbk : Byte) (s : State) : Out := .next (s.blockMove (fun w v => w.trunc (v - 1)) dbk sbk)

end Sys2Proof.Machine
end

