-- ==== Sys2Proof/Machine/Control.lean ====
section
/-! DEFINITION. Branches, jumps, calls and returns (45_control.md R280 to R296). When a meaning runs, PC is the offset of
the next instruction (10_state.md R45), except for JSL and JSR (addr,X), whose last operand byte their meaning fetches. -/
namespace Sys2Proof.Machine

/-- `PC <- target`. -/
def State.jump (s : State) (target : Word) : State := s.withCpu { s.cpu with pc := target }

/-- A branch (45_control.md R280, 40_addressing.md R190). -/
def State.branch (s : State) (taken : Bool) (rel : Byte) : State :=
  if taken then s.jump (s.cpu.pc + sext rel) else s

/-- JMP through a 16-bit pointer (45_control.md R291). -/
def State.jumpThrough (s : State) (l : Loc) : State :=
  let t := s.load16 l
  t.st.jump t.v

/-- `PB <- t[23:16]; PC <- t[15:0]` (45_control.md R292). -/
def State.jumpLong (s : State) (t : Addr) : State := s.withCpu { s.cpu with pb := bankOf t, pc := offOf t }

/-- JML through a 24-bit pointer (45_control.md R292). -/
def State.jumpLongThrough (s : State) (l : Loc) : State :=
  let t := s.load24 l
  t.st.jumpLong t.v

/-- JSR addr (45_control.md R293). -/
def State.callNear (s : State) (addr : Word) : State := (s.push16 false (s.cpu.pc - 1)).jump addr

/-- JSR (addr,X) after its low operand byte `lo` (45_control.md R293): PC, the offset of the high byte, is pushed, and
then the high byte is fetched. -/
def State.callIndexed (lo : Byte) (s : State) : State :=
  let hi := (s.push16 s.noWrap s.cpu.pc).fetch8
  let t := hi.st.load16 (.prog (mkWord hi.v lo + hi.st.cpu.x))
  (t.st.jump t.v).endNoWrap

/-- JSL after its two offset bytes (45_control.md R294): PB is pushed, the bank byte is fetched, and then PC - 1 is pushed. -/
def State.callLong (off : Word) (s : State) : State :=
  let bk := (s.push8 s.noWrap s.cpu.pb).fetch8
  let s1 := bk.st.push16 s.noWrap (bk.st.cpu.pc - 1)
  (s1.jumpLong (mkAddr bk.v off)).endNoWrap

/-- RTS (45_control.md R295). -/
def State.returnNear (s : State) : State :=
  let t := s.pull16 false
  t.st.jump (t.v + 1)

/-- RTL (45_control.md R296): the increment does not carry into the bank. -/
def State.returnLong (s : State) : State :=
  let t := s.pull24 s.noWrap
  (t.st.jumpLong (mkAddr (bankOf t.v) (offOf t.v + 1))).endNoWrap

/-- 0x10 BPL rel8 (45_control.md R281). -/
def execBpl (rel : Byte) (s : State) : Out := .next (s.branch (!s.cpu.flag .n) rel)

/-- 0x30 BMI rel8 (45_control.md R282). -/
def execBmi (rel : Byte) (s : State) : Out := .next (s.branch (s.cpu.flag .n) rel)

/-- 0x50 BVC rel8 (45_control.md R283). -/
def execBvc (rel : Byte) (s : State) : Out := .next (s.branch (!s.cpu.flag .v) rel)

/-- 0x70 BVS rel8 (45_control.md R284). -/
def execBvs (rel : Byte) (s : State) : Out := .next (s.branch (s.cpu.flag .v) rel)

/-- 0x90 BCC rel8 (45_control.md R285). -/
def execBcc (rel : Byte) (s : State) : Out := .next (s.branch (!s.cpu.flag .c) rel)

/-- 0xB0 BCS rel8 (45_control.md R286). -/
def execBcs (rel : Byte) (s : State) : Out := .next (s.branch (s.cpu.flag .c) rel)

/-- 0xD0 BNE rel8 (45_control.md R287). -/
def execBne (rel : Byte) (s : State) : Out := .next (s.branch (!s.cpu.flag .z) rel)

/-- 0xF0 BEQ rel8 (45_control.md R288). -/
def execBeq (rel : Byte) (s : State) : Out := .next (s.branch (s.cpu.flag .z) rel)

/-- 0x80 BRA rel8 (45_control.md R289). -/
def execBra (rel : Byte) (s : State) : Out := .next (s.branch true rel)

/-- 0x82 BRL rel16 (45_control.md R290). -/
def execBrl (rel : Word) (s : State) : Out := .next (s.withCpu { s.cpu with pc := s.cpu.pc + rel })

/-- 0x4C JMP addr (45_control.md R291). -/
def execJmpAbs (addr : Word) (s : State) : Out := .next (s.jump addr)

/-- 0x6C JMP (addr) (45_control.md R291). -/
def execJmpAbsInd (addr : Word) (s : State) : Out := .next (s.jumpThrough (.bank0 addr))

/-- 0x7C JMP (addr,X) (45_control.md R291). -/
def execJmpAbsXInd (addr : Word) (s : State) : Out := .next (s.jumpThrough (.prog (addr + s.cpu.x)))

/-- 0x5C JML long (45_control.md R292). -/
def execJmlLong (long : Addr) (s : State) : Out := .next (s.jumpLong long)

/-- 0xDC JML [addr] (45_control.md R292). -/
def execJmlAbsIndLong (addr : Word) (s : State) : Out := .next (s.jumpLongThrough (.bank0 addr))

/-- 0x20 JSR addr (45_control.md R293). -/
def execJsrAbs (addr : Word) (s : State) : Out := .next (s.callNear addr)

/-- 0xFC JSR (addr,X) (45_control.md R293). -/
def execJsrAbsXInd (addr : Word) (s : State) : Out := .next (s.callIndexed (loByte addr))

/-- 0x22 JSL long (45_control.md R294). -/
def execJsl (long : Addr) (s : State) : Out := .next (s.callLong (offOf long))

/-- 0x60 RTS (45_control.md R295). -/
def execRts (s : State) : Out := .next (s.returnNear)

/-- 0x6B RTL (45_control.md R296). -/
def execRtl (s : State) : Out := .next (s.returnLong)

end Sys2Proof.Machine
end

