-- ==== Sys2Proof/Machine/LoadStore.lean ====
section
/-! DEFINITION. Loads and stores: LDA, LDX, LDY, STA, STX, STY, STZ (41_load_store.md R200 to R206). -/
namespace Sys2Proof.Machine

/-- LDA (41_load_store.md R200). -/
def State.lda (s : State) (mode : Mode) : State :=
  let r := s.operand s.cpu.m mode
  r.st.withCpu ((r.st.cpu.setAcc r.v).setNZ s.cpu.m r.v)

/-- LDX (41_load_store.md R201). -/
def State.ldx (s : State) (mode : Mode) : State :=
  let r := s.operand s.cpu.xw mode
  r.st.withCpu ((r.st.cpu.setX r.v).setNZ s.cpu.xw r.v)

/-- LDY (41_load_store.md R202). -/
def State.ldy (s : State) (mode : Mode) : State :=
  let r := s.operand s.cpu.xw mode
  r.st.withCpu ((r.st.cpu.setY r.v).setNZ s.cpu.xw r.v)

/-- STA (41_load_store.md R203). -/
def State.sta (s : State) (mode : MemMode) : State := s.storeTo s.cpu.m mode s.cpu.acc

/-- STX (41_load_store.md R204). -/
def State.stx (s : State) (mode : MemMode) : State := s.storeTo s.cpu.xw mode s.cpu.xr

/-- STY (41_load_store.md R205). -/
def State.sty (s : State) (mode : MemMode) : State := s.storeTo s.cpu.xw mode s.cpu.yr

/-- STZ (41_load_store.md R206). -/
def State.stz (s : State) (mode : MemMode) : State := s.storeTo s.cpu.m mode 0

/-- 0xA1 LDA (dp,X) (41_load_store.md R200). -/
def execLdaDpXInd (dp : Byte) (s : State) : Out := .next (s.lda (.mem (.dpXInd dp)))

/-- 0xA3 LDA sr,S (41_load_store.md R200). -/
def execLdaSr (sr : Byte) (s : State) : Out := .next (s.lda (.mem (.sr sr)))

/-- 0xA5 LDA dp (41_load_store.md R200). -/
def execLdaDp (dp : Byte) (s : State) : Out := .next (s.lda (.mem (.dp dp)))

/-- 0xA7 LDA [dp] (41_load_store.md R200). -/
def execLdaDpIndLong (dp : Byte) (s : State) : Out := .next (s.lda (.mem (.dpIndLong dp)))

/-- 0xA9 LDA #const (width m) (41_load_store.md R200). -/
def execLdaImm (v : Word) (s : State) : Out := .next (s.lda (.imm v))

/-- 0xAD LDA addr (41_load_store.md R200). -/
def execLdaAbs (addr : Word) (s : State) : Out := .next (s.lda (.mem (.abs addr)))

/-- 0xAF LDA long (41_load_store.md R200). -/
def execLdaLong (long : Addr) (s : State) : Out := .next (s.lda (.mem (.long long)))

/-- 0xB1 LDA (dp),Y (41_load_store.md R200). -/
def execLdaDpIndY (dp : Byte) (s : State) : Out := .next (s.lda (.mem (.dpIndY dp)))

/-- 0xB2 LDA (dp) (41_load_store.md R200). -/
def execLdaDpInd (dp : Byte) (s : State) : Out := .next (s.lda (.mem (.dpInd dp)))

/-- 0xB3 LDA (sr,S),Y (41_load_store.md R200). -/
def execLdaSrIndY (sr : Byte) (s : State) : Out := .next (s.lda (.mem (.srIndY sr)))

/-- 0xB5 LDA dp,X (41_load_store.md R200). -/
def execLdaDpX (dp : Byte) (s : State) : Out := .next (s.lda (.mem (.dpX dp)))

/-- 0xB7 LDA [dp],Y (41_load_store.md R200). -/
def execLdaDpIndLongY (dp : Byte) (s : State) : Out := .next (s.lda (.mem (.dpIndLongY dp)))

/-- 0xB9 LDA addr,Y (41_load_store.md R200). -/
def execLdaAbsY (addr : Word) (s : State) : Out := .next (s.lda (.mem (.absY addr)))

/-- 0xBD LDA addr,X (41_load_store.md R200). -/
def execLdaAbsX (addr : Word) (s : State) : Out := .next (s.lda (.mem (.absX addr)))

/-- 0xBF LDA long,X (41_load_store.md R200). -/
def execLdaLongX (long : Addr) (s : State) : Out := .next (s.lda (.mem (.longX long)))

/-- 0xA2 LDX #const (width x) (41_load_store.md R201). -/
def execLdxImm (v : Word) (s : State) : Out := .next (s.ldx (.imm v))

/-- 0xA6 LDX dp (41_load_store.md R201). -/
def execLdxDp (dp : Byte) (s : State) : Out := .next (s.ldx (.mem (.dp dp)))

/-- 0xAE LDX addr (41_load_store.md R201). -/
def execLdxAbs (addr : Word) (s : State) : Out := .next (s.ldx (.mem (.abs addr)))

/-- 0xB6 LDX dp,Y (41_load_store.md R201). -/
def execLdxDpY (dp : Byte) (s : State) : Out := .next (s.ldx (.mem (.dpY dp)))

/-- 0xBE LDX addr,Y (41_load_store.md R201). -/
def execLdxAbsY (addr : Word) (s : State) : Out := .next (s.ldx (.mem (.absY addr)))

/-- 0xA0 LDY #const (width x) (41_load_store.md R202). -/
def execLdyImm (v : Word) (s : State) : Out := .next (s.ldy (.imm v))

/-- 0xA4 LDY dp (41_load_store.md R202). -/
def execLdyDp (dp : Byte) (s : State) : Out := .next (s.ldy (.mem (.dp dp)))

/-- 0xAC LDY addr (41_load_store.md R202). -/
def execLdyAbs (addr : Word) (s : State) : Out := .next (s.ldy (.mem (.abs addr)))

/-- 0xB4 LDY dp,X (41_load_store.md R202). -/
def execLdyDpX (dp : Byte) (s : State) : Out := .next (s.ldy (.mem (.dpX dp)))

/-- 0xBC LDY addr,X (41_load_store.md R202). -/
def execLdyAbsX (addr : Word) (s : State) : Out := .next (s.ldy (.mem (.absX addr)))

/-- 0x81 STA (dp,X) (41_load_store.md R203). -/
def execStaDpXInd (dp : Byte) (s : State) : Out := .next (s.sta (.dpXInd dp))

/-- 0x83 STA sr,S (41_load_store.md R203). -/
def execStaSr (sr : Byte) (s : State) : Out := .next (s.sta (.sr sr))

/-- 0x85 STA dp (41_load_store.md R203). -/
def execStaDp (dp : Byte) (s : State) : Out := .next (s.sta (.dp dp))

/-- 0x87 STA [dp] (41_load_store.md R203). -/
def execStaDpIndLong (dp : Byte) (s : State) : Out := .next (s.sta (.dpIndLong dp))

/-- 0x8D STA addr (41_load_store.md R203). -/
def execStaAbs (addr : Word) (s : State) : Out := .next (s.sta (.abs addr))

/-- 0x8F STA long (41_load_store.md R203). -/
def execStaLong (long : Addr) (s : State) : Out := .next (s.sta (.long long))

/-- 0x91 STA (dp),Y (41_load_store.md R203). -/
def execStaDpIndY (dp : Byte) (s : State) : Out := .next (s.sta (.dpIndY dp))

/-- 0x92 STA (dp) (41_load_store.md R203). -/
def execStaDpInd (dp : Byte) (s : State) : Out := .next (s.sta (.dpInd dp))

/-- 0x93 STA (sr,S),Y (41_load_store.md R203). -/
def execStaSrIndY (sr : Byte) (s : State) : Out := .next (s.sta (.srIndY sr))

/-- 0x95 STA dp,X (41_load_store.md R203). -/
def execStaDpX (dp : Byte) (s : State) : Out := .next (s.sta (.dpX dp))

/-- 0x97 STA [dp],Y (41_load_store.md R203). -/
def execStaDpIndLongY (dp : Byte) (s : State) : Out := .next (s.sta (.dpIndLongY dp))

/-- 0x99 STA addr,Y (41_load_store.md R203). -/
def execStaAbsY (addr : Word) (s : State) : Out := .next (s.sta (.absY addr))

/-- 0x9D STA addr,X (41_load_store.md R203). -/
def execStaAbsX (addr : Word) (s : State) : Out := .next (s.sta (.absX addr))

/-- 0x9F STA long,X (41_load_store.md R203). -/
def execStaLongX (long : Addr) (s : State) : Out := .next (s.sta (.longX long))

/-- 0x86 STX dp (41_load_store.md R204). -/
def execStxDp (dp : Byte) (s : State) : Out := .next (s.stx (.dp dp))

/-- 0x8E STX addr (41_load_store.md R204). -/
def execStxAbs (addr : Word) (s : State) : Out := .next (s.stx (.abs addr))

/-- 0x96 STX dp,Y (41_load_store.md R204). -/
def execStxDpY (dp : Byte) (s : State) : Out := .next (s.stx (.dpY dp))

/-- 0x84 STY dp (41_load_store.md R205). -/
def execStyDp (dp : Byte) (s : State) : Out := .next (s.sty (.dp dp))

/-- 0x8C STY addr (41_load_store.md R205). -/
def execStyAbs (addr : Word) (s : State) : Out := .next (s.sty (.abs addr))

/-- 0x94 STY dp,X (41_load_store.md R205). -/
def execStyDpX (dp : Byte) (s : State) : Out := .next (s.sty (.dpX dp))

/-- 0x64 STZ dp (41_load_store.md R206). -/
def execStzDp (dp : Byte) (s : State) : Out := .next (s.stz (.dp dp))

/-- 0x74 STZ dp,X (41_load_store.md R206). -/
def execStzDpX (dp : Byte) (s : State) : Out := .next (s.stz (.dpX dp))

/-- 0x9C STZ addr (41_load_store.md R206). -/
def execStzAbs (addr : Word) (s : State) : Out := .next (s.stz (.abs addr))

/-- 0x9E STZ addr,X (41_load_store.md R206). -/
def execStzAbsX (addr : Word) (s : State) : Out := .next (s.stz (.absX addr))

end Sys2Proof.Machine
end

