-- ==== Sys2Proof/Machine/Logic.lean ====
section
/-! DEFINITION. AND, ORA, EOR, BIT, TSB, TRB (44_logic_shift.md R260 to R265). -/
namespace Sys2Proof.Machine

/-- The accumulator combined with an operand by a bitwise operation, N and Z from the result. -/
def State.logic (s : State) (op : Word → Word → Word) (mode : Mode) : State :=
  let r := s.operand s.cpu.m mode
  let v := op s.cpu.acc r.v
  r.st.withCpu ((r.st.cpu.setAcc v).setNZ s.cpu.m v)

/-- AND (44_logic_shift.md R260). -/
def State.and (s : State) (mode : Mode) : State := s.logic (fun a b => a &&& b) mode

/-- ORA (44_logic_shift.md R261). -/
def State.ora (s : State) (mode : Mode) : State := s.logic (fun a b => a ||| b) mode

/-- EOR (44_logic_shift.md R262). -/
def State.eor (s : State) (mode : Mode) : State := s.logic (fun a b => a ^^^ b) mode

/-- BIT of a memory operand (44_logic_shift.md R263). -/
def State.bit (s : State) (mode : MemMode) : State :=
  let r := s.operand s.cpu.m (.mem mode)
  r.st.withCpu { r.st.cpu with p := bitFlags s.cpu.m s.cpu.acc r.v r.st.cpu.p }

/-- BIT of an immediate (44_logic_shift.md R263): Z only. -/
def State.bitImm (s : State) (v : Word) : State :=
  let r := s.operand s.cpu.m (.imm v)
  r.st.withCpu { r.st.cpu with p := bitImmFlags s.cpu.acc r.v r.st.cpu.p }

/-- 0x21 AND (dp,X) (44_logic_shift.md R260). -/
def execAndDpXInd (dp : Byte) (s : State) : Out := .next (s.and (.mem (.dpXInd dp)))

/-- 0x23 AND sr,S (44_logic_shift.md R260). -/
def execAndSr (sr : Byte) (s : State) : Out := .next (s.and (.mem (.sr sr)))

/-- 0x25 AND dp (44_logic_shift.md R260). -/
def execAndDp (dp : Byte) (s : State) : Out := .next (s.and (.mem (.dp dp)))

/-- 0x27 AND [dp] (44_logic_shift.md R260). -/
def execAndDpIndLong (dp : Byte) (s : State) : Out := .next (s.and (.mem (.dpIndLong dp)))

/-- 0x29 AND #const (width m) (44_logic_shift.md R260). -/
def execAndImm (v : Word) (s : State) : Out := .next (s.and (.imm v))

/-- 0x2D AND addr (44_logic_shift.md R260). -/
def execAndAbs (addr : Word) (s : State) : Out := .next (s.and (.mem (.abs addr)))

/-- 0x2F AND long (44_logic_shift.md R260). -/
def execAndLong (long : Addr) (s : State) : Out := .next (s.and (.mem (.long long)))

/-- 0x31 AND (dp),Y (44_logic_shift.md R260). -/
def execAndDpIndY (dp : Byte) (s : State) : Out := .next (s.and (.mem (.dpIndY dp)))

/-- 0x32 AND (dp) (44_logic_shift.md R260). -/
def execAndDpInd (dp : Byte) (s : State) : Out := .next (s.and (.mem (.dpInd dp)))

/-- 0x33 AND (sr,S),Y (44_logic_shift.md R260). -/
def execAndSrIndY (sr : Byte) (s : State) : Out := .next (s.and (.mem (.srIndY sr)))

/-- 0x35 AND dp,X (44_logic_shift.md R260). -/
def execAndDpX (dp : Byte) (s : State) : Out := .next (s.and (.mem (.dpX dp)))

/-- 0x37 AND [dp],Y (44_logic_shift.md R260). -/
def execAndDpIndLongY (dp : Byte) (s : State) : Out := .next (s.and (.mem (.dpIndLongY dp)))

/-- 0x39 AND addr,Y (44_logic_shift.md R260). -/
def execAndAbsY (addr : Word) (s : State) : Out := .next (s.and (.mem (.absY addr)))

/-- 0x3D AND addr,X (44_logic_shift.md R260). -/
def execAndAbsX (addr : Word) (s : State) : Out := .next (s.and (.mem (.absX addr)))

/-- 0x3F AND long,X (44_logic_shift.md R260). -/
def execAndLongX (long : Addr) (s : State) : Out := .next (s.and (.mem (.longX long)))

/-- 0x01 ORA (dp,X) (44_logic_shift.md R261). -/
def execOraDpXInd (dp : Byte) (s : State) : Out := .next (s.ora (.mem (.dpXInd dp)))

/-- 0x03 ORA sr,S (44_logic_shift.md R261). -/
def execOraSr (sr : Byte) (s : State) : Out := .next (s.ora (.mem (.sr sr)))

/-- 0x05 ORA dp (44_logic_shift.md R261). -/
def execOraDp (dp : Byte) (s : State) : Out := .next (s.ora (.mem (.dp dp)))

/-- 0x07 ORA [dp] (44_logic_shift.md R261). -/
def execOraDpIndLong (dp : Byte) (s : State) : Out := .next (s.ora (.mem (.dpIndLong dp)))

/-- 0x09 ORA #const (width m) (44_logic_shift.md R261). -/
def execOraImm (v : Word) (s : State) : Out := .next (s.ora (.imm v))

/-- 0x0D ORA addr (44_logic_shift.md R261). -/
def execOraAbs (addr : Word) (s : State) : Out := .next (s.ora (.mem (.abs addr)))

/-- 0x0F ORA long (44_logic_shift.md R261). -/
def execOraLong (long : Addr) (s : State) : Out := .next (s.ora (.mem (.long long)))

/-- 0x11 ORA (dp),Y (44_logic_shift.md R261). -/
def execOraDpIndY (dp : Byte) (s : State) : Out := .next (s.ora (.mem (.dpIndY dp)))

/-- 0x12 ORA (dp) (44_logic_shift.md R261). -/
def execOraDpInd (dp : Byte) (s : State) : Out := .next (s.ora (.mem (.dpInd dp)))

/-- 0x13 ORA (sr,S),Y (44_logic_shift.md R261). -/
def execOraSrIndY (sr : Byte) (s : State) : Out := .next (s.ora (.mem (.srIndY sr)))

/-- 0x15 ORA dp,X (44_logic_shift.md R261). -/
def execOraDpX (dp : Byte) (s : State) : Out := .next (s.ora (.mem (.dpX dp)))

/-- 0x17 ORA [dp],Y (44_logic_shift.md R261). -/
def execOraDpIndLongY (dp : Byte) (s : State) : Out := .next (s.ora (.mem (.dpIndLongY dp)))

/-- 0x19 ORA addr,Y (44_logic_shift.md R261). -/
def execOraAbsY (addr : Word) (s : State) : Out := .next (s.ora (.mem (.absY addr)))

/-- 0x1D ORA addr,X (44_logic_shift.md R261). -/
def execOraAbsX (addr : Word) (s : State) : Out := .next (s.ora (.mem (.absX addr)))

/-- 0x1F ORA long,X (44_logic_shift.md R261). -/
def execOraLongX (long : Addr) (s : State) : Out := .next (s.ora (.mem (.longX long)))

/-- 0x41 EOR (dp,X) (44_logic_shift.md R262). -/
def execEorDpXInd (dp : Byte) (s : State) : Out := .next (s.eor (.mem (.dpXInd dp)))

/-- 0x43 EOR sr,S (44_logic_shift.md R262). -/
def execEorSr (sr : Byte) (s : State) : Out := .next (s.eor (.mem (.sr sr)))

/-- 0x45 EOR dp (44_logic_shift.md R262). -/
def execEorDp (dp : Byte) (s : State) : Out := .next (s.eor (.mem (.dp dp)))

/-- 0x47 EOR [dp] (44_logic_shift.md R262). -/
def execEorDpIndLong (dp : Byte) (s : State) : Out := .next (s.eor (.mem (.dpIndLong dp)))

/-- 0x49 EOR #const (width m) (44_logic_shift.md R262). -/
def execEorImm (v : Word) (s : State) : Out := .next (s.eor (.imm v))

/-- 0x4D EOR addr (44_logic_shift.md R262). -/
def execEorAbs (addr : Word) (s : State) : Out := .next (s.eor (.mem (.abs addr)))

/-- 0x4F EOR long (44_logic_shift.md R262). -/
def execEorLong (long : Addr) (s : State) : Out := .next (s.eor (.mem (.long long)))

/-- 0x51 EOR (dp),Y (44_logic_shift.md R262). -/
def execEorDpIndY (dp : Byte) (s : State) : Out := .next (s.eor (.mem (.dpIndY dp)))

/-- 0x52 EOR (dp) (44_logic_shift.md R262). -/
def execEorDpInd (dp : Byte) (s : State) : Out := .next (s.eor (.mem (.dpInd dp)))

/-- 0x53 EOR (sr,S),Y (44_logic_shift.md R262). -/
def execEorSrIndY (sr : Byte) (s : State) : Out := .next (s.eor (.mem (.srIndY sr)))

/-- 0x55 EOR dp,X (44_logic_shift.md R262). -/
def execEorDpX (dp : Byte) (s : State) : Out := .next (s.eor (.mem (.dpX dp)))

/-- 0x57 EOR [dp],Y (44_logic_shift.md R262). -/
def execEorDpIndLongY (dp : Byte) (s : State) : Out := .next (s.eor (.mem (.dpIndLongY dp)))

/-- 0x59 EOR addr,Y (44_logic_shift.md R262). -/
def execEorAbsY (addr : Word) (s : State) : Out := .next (s.eor (.mem (.absY addr)))

/-- 0x5D EOR addr,X (44_logic_shift.md R262). -/
def execEorAbsX (addr : Word) (s : State) : Out := .next (s.eor (.mem (.absX addr)))

/-- 0x5F EOR long,X (44_logic_shift.md R262). -/
def execEorLongX (long : Addr) (s : State) : Out := .next (s.eor (.mem (.longX long)))

/-- 0x24 BIT dp (44_logic_shift.md R263). -/
def execBitDp (dp : Byte) (s : State) : Out := .next (s.bit (.dp dp))

/-- 0x2C BIT addr (44_logic_shift.md R263). -/
def execBitAbs (addr : Word) (s : State) : Out := .next (s.bit (.abs addr))

/-- 0x34 BIT dp,X (44_logic_shift.md R263). -/
def execBitDpX (dp : Byte) (s : State) : Out := .next (s.bit (.dpX dp))

/-- 0x3C BIT addr,X (44_logic_shift.md R263). -/
def execBitAbsX (addr : Word) (s : State) : Out := .next (s.bit (.absX addr))

/-- 0x89 BIT #const (width m) (44_logic_shift.md R263). -/
def execBitImm (v : Word) (s : State) : Out := .next (s.bitImm v)

/-- 0x04 TSB dp (44_logic_shift.md R264). -/
def execTsbDp (dp : Byte) (s : State) : Out := .next (s.modifyAt s.cpu.m (.dp dp) (tsbValue s.cpu.acc))

/-- 0x0C TSB addr (44_logic_shift.md R264). -/
def execTsbAbs (addr : Word) (s : State) : Out := .next (s.modifyAt s.cpu.m (.abs addr) (tsbValue s.cpu.acc))

/-- 0x14 TRB dp (44_logic_shift.md R265). -/
def execTrbDp (dp : Byte) (s : State) : Out := .next (s.modifyAt s.cpu.m (.dp dp) (trbValue s.cpu.acc))

/-- 0x1C TRB addr (44_logic_shift.md R265). -/
def execTrbAbs (addr : Word) (s : State) : Out := .next (s.modifyAt s.cpu.m (.abs addr) (trbValue s.cpu.acc))

end Sys2Proof.Machine
end

