-- ==== Sys2Proof/Machine/Shift.lean ====
section
/-! DEFINITION. Shifts and rotates by one bit: ASL, LSR, ROL, ROR (44_logic_shift.md R266 to R269). -/
namespace Sys2Proof.Machine

/-- 0x06 ASL dp (44_logic_shift.md R266). -/
def execAslDp (dp : Byte) (s : State) : Out := .next (s.modifyAt s.cpu.m (.dp dp) (aslValue s.cpu.m))

/-- 0x0A ASL A (44_logic_shift.md R266). -/
def execAslAcc (s : State) : Out := .next (s.modifyAcc (aslValue s.cpu.m))

/-- 0x0E ASL addr (44_logic_shift.md R266). -/
def execAslAbs (addr : Word) (s : State) : Out := .next (s.modifyAt s.cpu.m (.abs addr) (aslValue s.cpu.m))

/-- 0x16 ASL dp,X (44_logic_shift.md R266). -/
def execAslDpX (dp : Byte) (s : State) : Out := .next (s.modifyAt s.cpu.m (.dpX dp) (aslValue s.cpu.m))

/-- 0x1E ASL addr,X (44_logic_shift.md R266). -/
def execAslAbsX (addr : Word) (s : State) : Out := .next (s.modifyAt s.cpu.m (.absX addr) (aslValue s.cpu.m))

/-- 0x46 LSR dp (44_logic_shift.md R267). -/
def execLsrDp (dp : Byte) (s : State) : Out := .next (s.modifyAt s.cpu.m (.dp dp) (lsrValue s.cpu.m))

/-- 0x4A LSR A (44_logic_shift.md R267). -/
def execLsrAcc (s : State) : Out := .next (s.modifyAcc (lsrValue s.cpu.m))

/-- 0x4E LSR addr (44_logic_shift.md R267). -/
def execLsrAbs (addr : Word) (s : State) : Out := .next (s.modifyAt s.cpu.m (.abs addr) (lsrValue s.cpu.m))

/-- 0x56 LSR dp,X (44_logic_shift.md R267). -/
def execLsrDpX (dp : Byte) (s : State) : Out := .next (s.modifyAt s.cpu.m (.dpX dp) (lsrValue s.cpu.m))

/-- 0x5E LSR addr,X (44_logic_shift.md R267). -/
def execLsrAbsX (addr : Word) (s : State) : Out := .next (s.modifyAt s.cpu.m (.absX addr) (lsrValue s.cpu.m))

/-- 0x26 ROL dp (44_logic_shift.md R268). -/
def execRolDp (dp : Byte) (s : State) : Out := .next (s.modifyAt s.cpu.m (.dp dp) (rolValue s.cpu.m))

/-- 0x2A ROL A (44_logic_shift.md R268). -/
def execRolAcc (s : State) : Out := .next (s.modifyAcc (rolValue s.cpu.m))

/-- 0x2E ROL addr (44_logic_shift.md R268). -/
def execRolAbs (addr : Word) (s : State) : Out := .next (s.modifyAt s.cpu.m (.abs addr) (rolValue s.cpu.m))

/-- 0x36 ROL dp,X (44_logic_shift.md R268). -/
def execRolDpX (dp : Byte) (s : State) : Out := .next (s.modifyAt s.cpu.m (.dpX dp) (rolValue s.cpu.m))

/-- 0x3E ROL addr,X (44_logic_shift.md R268). -/
def execRolAbsX (addr : Word) (s : State) : Out := .next (s.modifyAt s.cpu.m (.absX addr) (rolValue s.cpu.m))

/-- 0x66 ROR dp (44_logic_shift.md R269). -/
def execRorDp (dp : Byte) (s : State) : Out := .next (s.modifyAt s.cpu.m (.dp dp) (rorValue s.cpu.m))

/-- 0x6A ROR A (44_logic_shift.md R269). -/
def execRorAcc (s : State) : Out := .next (s.modifyAcc (rorValue s.cpu.m))

/-- 0x6E ROR addr (44_logic_shift.md R269). -/
def execRorAbs (addr : Word) (s : State) : Out := .next (s.modifyAt s.cpu.m (.abs addr) (rorValue s.cpu.m))

/-- 0x76 ROR dp,X (44_logic_shift.md R269). -/
def execRorDpX (dp : Byte) (s : State) : Out := .next (s.modifyAt s.cpu.m (.dpX dp) (rorValue s.cpu.m))

/-- 0x7E ROR addr,X (44_logic_shift.md R269). -/
def execRorAbsX (addr : Word) (s : State) : Out := .next (s.modifyAt s.cpu.m (.absX addr) (rorValue s.cpu.m))

end Sys2Proof.Machine
end

