-- ==== Sys2Proof/Machine/Stack.lean ====
section
/-! DEFINITION. Pushes, pulls, PEA, PEI, PER (46_stack.md R310 to R326). -/
namespace Sys2Proof.Machine

/-- A push at a width (46_stack.md R311 to R313). -/
def State.pushWidth (s : State) (w : Width) (v : Word) : State :=
  match w with
  | .b8 => s.push8 false (loByte v)
  | .b16 => s.push16 false v

/-- PHA (46_stack.md R311). -/
def State.pushAcc (s : State) : State := s.pushWidth s.cpu.m s.cpu.a

/-- PHX, PHY (46_stack.md R312, R313). -/
def State.pushIndex (s : State) (v : Word) : State := s.pushWidth s.cpu.xw v

/-- A 16-bit push of a `NoWrapOp`: PHD, PEA, PEI, PER (46_stack.md R316, R324 to R326; 40_addressing.md R196). -/
def State.pushNew (s : State) (v : Word) : State := (s.push16 s.noWrap v).endNoWrap

/-- PEI (46_stack.md R325). -/
def State.pushIndirect (s : State) (dp : Byte) : State :=
  let r := s.load16 (.dirN (zext dp))
  r.st.pushNew r.v

/-- A pull at a width (46_stack.md R318 to R320). -/
def State.pullWidth (s : State) (w : Width) : WordRead :=
  match w with
  | .b8 =>
    let r := s.pull8 false
    { v := zext r.v, st := r.st }
  | .b16 => s.pull16 false

/-- PLA (46_stack.md R318). -/
def State.pullAcc (s : State) : State :=
  let r := s.pullWidth s.cpu.m
  r.st.withCpu ((r.st.cpu.setAcc r.v).setNZ s.cpu.m r.v)

/-- PLX (46_stack.md R319). -/
def State.pullX (s : State) : State :=
  let r := s.pullWidth s.cpu.xw
  r.st.withCpu ((r.st.cpu.setX r.v).setNZ s.cpu.xw r.v)

/-- PLY (46_stack.md R320). -/
def State.pullY (s : State) : State :=
  let r := s.pullWidth s.cpu.xw
  r.st.withCpu ((r.st.cpu.setY r.v).setNZ s.cpu.xw r.v)

/-- PLP (46_stack.md R321). -/
def State.pullP (s : State) : State :=
  let r := s.pull8 false
  r.st.withCpu (r.st.cpu.setP r.v)

/-- PLB (46_stack.md R322). -/
def State.pullBank (s : State) : State :=
  let r := s.pull8 false
  r.st.withCpu (({ r.st.cpu with db := r.v }).setNZ .b8 (zext r.v))

/-- PLD (46_stack.md R323), a `NoWrapOp`. -/
def State.pullDirect (s : State) : State :=
  let r := s.pull16 s.noWrap
  (r.st.withCpu (({ r.st.cpu with d := r.v }).setNZ .b16 r.v)).endNoWrap

/-- 0x48 PHA (46_stack.md R311). -/
def execPha (s : State) : Out := .next (s.pushAcc)

/-- 0xDA PHX (46_stack.md R312). -/
def execPhx (s : State) : Out := .next (s.pushIndex s.cpu.x)

/-- 0x5A PHY (46_stack.md R313). -/
def execPhy (s : State) : Out := .next (s.pushIndex s.cpu.y)

/-- 0x08 PHP (46_stack.md R314). -/
def execPhp (s : State) : Out := .next (s.push8 false s.cpu.p)

/-- 0x8B PHB (46_stack.md R315). -/
def execPhb (s : State) : Out := .next (s.push8 false s.cpu.db)

/-- 0x0B PHD (46_stack.md R316). -/
def execPhd (s : State) : Out := .next (s.pushNew s.cpu.d)

/-- 0x4B PHK (46_stack.md R317). -/
def execPhk (s : State) : Out := .next (s.push8 false s.cpu.pb)

/-- 0x68 PLA (46_stack.md R318). -/
def execPla (s : State) : Out := .next (s.pullAcc)

/-- 0xFA PLX (46_stack.md R319). -/
def execPlx (s : State) : Out := .next (s.pullX)

/-- 0x7A PLY (46_stack.md R320). -/
def execPly (s : State) : Out := .next (s.pullY)

/-- 0x28 PLP (46_stack.md R321). -/
def execPlp (s : State) : Out := .next (s.pullP)

/-- 0xAB PLB (46_stack.md R322). -/
def execPlb (s : State) : Out := .next (s.pullBank)

/-- 0x2B PLD (46_stack.md R323). -/
def execPld (s : State) : Out := .next (s.pullDirect)

/-- 0xF4 PEA addr (46_stack.md R324). -/
def execPea (addr : Word) (s : State) : Out := .next (s.pushNew addr)

/-- 0xD4 PEI (dp) (46_stack.md R325). -/
def execPei (dp : Byte) (s : State) : Out := .next (s.pushIndirect dp)

/-- 0x62 PER rel16 (46_stack.md R326). -/
def execPer (rel : Word) (s : State) : Out := .next (s.pushNew (s.cpu.pc + rel))

end Sys2Proof.Machine
end

