-- ==== Sys2Proof/Machine/System.lean ====
section
/-! DEFINITION. Flags, modes, no-operations, software interrupts, RTI, WAI and STP (47_status_system.md R330 to R346). -/
namespace Sys2Proof.Machine

/-- XCE (47_status_system.md R339). -/
def Cpu.xce (c : Cpu) : Cpu :=
  let c1 := { c.setFlag .c c.e with e := c.flag .c }
  if c1.e then c1.forceEmulation else c1

/-- 0x18 CLC (47_status_system.md R330). -/
def execClc (s : State) : Out := .next (s.withCpu (s.cpu.setFlag .c false))

/-- 0xD8 CLD (47_status_system.md R331). -/
def execCld (s : State) : Out := .next (s.withCpu (s.cpu.setFlag .d false))

/-- 0x58 CLI (47_status_system.md R332). -/
def execCli (s : State) : Out := .next (s.withCpu (s.cpu.setFlag .i false))

/-- 0xB8 CLV (47_status_system.md R333). -/
def execClv (s : State) : Out := .next (s.withCpu (s.cpu.setFlag .v false))

/-- 0x38 SEC (47_status_system.md R334). -/
def execSec (s : State) : Out := .next (s.withCpu (s.cpu.setFlag .c true))

/-- 0xF8 SED (47_status_system.md R335). -/
def execSed (s : State) : Out := .next (s.withCpu (s.cpu.setFlag .d true))

/-- 0x78 SEI (47_status_system.md R336). -/
def execSei (s : State) : Out := .next (s.withCpu (s.cpu.setFlag .i true))

/-- 0xC2 REP #const (8 bits) (47_status_system.md R337). -/
def execRep (imm : Byte) (s : State) : Out := .next (s.withCpu (s.cpu.setP (s.cpu.p &&& ~~~imm)))

/-- 0xE2 SEP #const (8 bits) (47_status_system.md R338). -/
def execSep (imm : Byte) (s : State) : Out := .next (s.withCpu (s.cpu.setP (s.cpu.p ||| imm)))

/-- 0xFB XCE (47_status_system.md R339). -/
def execXce (s : State) : Out := .next (s.withCpu s.cpu.xce)

/-- 0xEA NOP (47_status_system.md R340). -/
def execNop (s : State) : Out := .next s

/-- 0x42 WDM #const (8 bits) (47_status_system.md R341). -/
def execWdm (_imm : Byte) (s : State) : Out := .next s

/-- 0x00 BRK #signature (47_status_system.md R342). -/
def execBrk (_sig : Byte) (s : State) : Out := .next (s.interrupt .brk)

/-- 0x02 COP #signature (47_status_system.md R343). -/
def execCop (_sig : Byte) (s : State) : Out := .next (s.interrupt .cop)

/-- 0x40 RTI (47_status_system.md R344). -/
def execRti (s : State) : Out := .next (s.returnFromInterrupt)

/-- 0xCB WAI (47_status_system.md R345). -/
def execWai (s : State) : Out := .next (s.withCpu { s.cpu with run := .waiting })

/-- 0xDB STP (47_status_system.md R346). -/
def execStp (s : State) : Out := .next (s.withCpu { s.cpu with run := .stopped })

end Sys2Proof.Machine
end

