-- ==== Sys2Proof/Machine/Transfer.lean ====
section
/-! DEFINITION. Register transfers and XBA (42_transfer.md R220 to R232). -/
namespace Sys2Proof.Machine

/-- TAX (42_transfer.md R220). -/
def Cpu.tax (c : Cpu) : Cpu := (c.setX c.a).setNZ c.xw c.a

/-- TAY (42_transfer.md R221). -/
def Cpu.tay (c : Cpu) : Cpu := (c.setY c.a).setNZ c.xw c.a

/-- TXA (42_transfer.md R222). -/
def Cpu.txa (c : Cpu) : Cpu := (c.setAcc c.x).setNZ c.m c.x

/-- TYA (42_transfer.md R223). -/
def Cpu.tya (c : Cpu) : Cpu := (c.setAcc c.y).setNZ c.m c.y

/-- TXY (42_transfer.md R224). -/
def Cpu.txy (c : Cpu) : Cpu := (c.setY c.x).setNZ c.xw c.x

/-- TYX (42_transfer.md R225). -/
def Cpu.tyx (c : Cpu) : Cpu := (c.setX c.y).setNZ c.xw c.y

/-- TSX (42_transfer.md R226). -/
def Cpu.tsx (c : Cpu) : Cpu := (c.setX c.s).setNZ c.xw c.s

/-- TXS (42_transfer.md R227). -/
def Cpu.txs (c : Cpu) : Cpu := if c.e then c.setSL (loByte c.x) else { c with s := c.x }

/-- TCS (42_transfer.md R228). -/
def Cpu.tcs (c : Cpu) : Cpu := if c.e then c.setSL (loByte c.a) else { c with s := c.a }

/-- TSC (42_transfer.md R229). -/
def Cpu.tsc (c : Cpu) : Cpu := ({ c with a := c.s }).setNZ .b16 c.s

/-- TCD (42_transfer.md R230). -/
def Cpu.tcd (c : Cpu) : Cpu := ({ c with d := c.a }).setNZ .b16 c.a

/-- TDC (42_transfer.md R231). -/
def Cpu.tdc (c : Cpu) : Cpu := ({ c with a := c.d }).setNZ .b16 c.d

/-- XBA (42_transfer.md R232): the flags are those of the new AL. -/
def Cpu.xba (c : Cpu) : Cpu := ({ c with a := mkWord (loByte c.a) (hiByte c.a) }).setNZ .b8 (zext (hiByte c.a))

/-- 0xAA TAX (42_transfer.md R220). -/
def execTax (s : State) : Out := .next (s.withCpu s.cpu.tax)

/-- 0xA8 TAY (42_transfer.md R221). -/
def execTay (s : State) : Out := .next (s.withCpu s.cpu.tay)

/-- 0x8A TXA (42_transfer.md R222). -/
def execTxa (s : State) : Out := .next (s.withCpu s.cpu.txa)

/-- 0x98 TYA (42_transfer.md R223). -/
def execTya (s : State) : Out := .next (s.withCpu s.cpu.tya)

/-- 0x9B TXY (42_transfer.md R224). -/
def execTxy (s : State) : Out := .next (s.withCpu s.cpu.txy)

/-- 0xBB TYX (42_transfer.md R225). -/
def execTyx (s : State) : Out := .next (s.withCpu s.cpu.tyx)

/-- 0xBA TSX (42_transfer.md R226). -/
def execTsx (s : State) : Out := .next (s.withCpu s.cpu.tsx)

/-- 0x9A TXS (42_transfer.md R227). -/
def execTxs (s : State) : Out := .next (s.withCpu s.cpu.txs)

/-- 0x1B TCS (42_transfer.md R228). -/
def execTcs (s : State) : Out := .next (s.withCpu s.cpu.tcs)

/-- 0x3B TSC (42_transfer.md R229). -/
def execTsc (s : State) : Out := .next (s.withCpu s.cpu.tsc)

/-- 0x5B TCD (42_transfer.md R230). -/
def execTcd (s : State) : Out := .next (s.withCpu s.cpu.tcd)

/-- 0x7B TDC (42_transfer.md R231). -/
def execTdc (s : State) : Out := .next (s.withCpu s.cpu.tdc)

/-- 0xEB XBA (42_transfer.md R232). -/
def execXba (s : State) : Out := .next (s.withCpu s.cpu.xba)

end Sys2Proof.Machine
end

