-- ==== Sys2Proof/Machine/Dispatch.lean ====
section
/-! DEFINITION. exec: one arm for each constructor of Instr (30_encoding.md R145). Every instruction has its meaning. -/
namespace Sys2Proof.Machine

/-- The meaning of an instruction in a state whose PC has advanced past the bytes fetched before its operation runs
(30_encoding.md R143): all of them, but for the last operand byte of JSL and JSR (addr,X) (45_control.md R293, R294). -/
def exec (i : Instr) (s : State) : Host.Outcome State Fault Refusal :=
  match i with
  | .brk sig => Sys2Proof.Machine.execBrk sig s
  | .oraDpXInd dp => Sys2Proof.Machine.execOraDpXInd dp s
  | .cop sig => Sys2Proof.Machine.execCop sig s
  | .oraSr sr => Sys2Proof.Machine.execOraSr sr s
  | .tsbDp dp => Sys2Proof.Machine.execTsbDp dp s
  | .oraDp dp => Sys2Proof.Machine.execOraDp dp s
  | .aslDp dp => Sys2Proof.Machine.execAslDp dp s
  | .oraDpIndLong dp => Sys2Proof.Machine.execOraDpIndLong dp s
  | .php => Sys2Proof.Machine.execPhp s
  | .oraImm v => Sys2Proof.Machine.execOraImm v s
  | .aslAcc => Sys2Proof.Machine.execAslAcc s
  | .phd => Sys2Proof.Machine.execPhd s
  | .tsbAbs addr => Sys2Proof.Machine.execTsbAbs addr s
  | .oraAbs addr => Sys2Proof.Machine.execOraAbs addr s
  | .aslAbs addr => Sys2Proof.Machine.execAslAbs addr s
  | .oraLong long => Sys2Proof.Machine.execOraLong long s
  | .bpl rel => Sys2Proof.Machine.execBpl rel s
  | .oraDpIndY dp => Sys2Proof.Machine.execOraDpIndY dp s
  | .oraDpInd dp => Sys2Proof.Machine.execOraDpInd dp s
  | .oraSrIndY sr => Sys2Proof.Machine.execOraSrIndY sr s
  | .trbDp dp => Sys2Proof.Machine.execTrbDp dp s
  | .oraDpX dp => Sys2Proof.Machine.execOraDpX dp s
  | .aslDpX dp => Sys2Proof.Machine.execAslDpX dp s
  | .oraDpIndLongY dp => Sys2Proof.Machine.execOraDpIndLongY dp s
  | .clc => Sys2Proof.Machine.execClc s
  | .oraAbsY addr => Sys2Proof.Machine.execOraAbsY addr s
  | .incAcc => Sys2Proof.Machine.execIncAcc s
  | .tcs => Sys2Proof.Machine.execTcs s
  | .trbAbs addr => Sys2Proof.Machine.execTrbAbs addr s
  | .oraAbsX addr => Sys2Proof.Machine.execOraAbsX addr s
  | .aslAbsX addr => Sys2Proof.Machine.execAslAbsX addr s
  | .oraLongX long => Sys2Proof.Machine.execOraLongX long s
  | .jsrAbs addr => Sys2Proof.Machine.execJsrAbs addr s
  | .andDpXInd dp => Sys2Proof.Machine.execAndDpXInd dp s
  | .jsl long => Sys2Proof.Machine.execJsl long s
  | .andSr sr => Sys2Proof.Machine.execAndSr sr s
  | .bitDp dp => Sys2Proof.Machine.execBitDp dp s
  | .andDp dp => Sys2Proof.Machine.execAndDp dp s
  | .rolDp dp => Sys2Proof.Machine.execRolDp dp s
  | .andDpIndLong dp => Sys2Proof.Machine.execAndDpIndLong dp s
  | .plp => Sys2Proof.Machine.execPlp s
  | .andImm v => Sys2Proof.Machine.execAndImm v s
  | .rolAcc => Sys2Proof.Machine.execRolAcc s
  | .pld => Sys2Proof.Machine.execPld s
  | .bitAbs addr => Sys2Proof.Machine.execBitAbs addr s
  | .andAbs addr => Sys2Proof.Machine.execAndAbs addr s
  | .rolAbs addr => Sys2Proof.Machine.execRolAbs addr s
  | .andLong long => Sys2Proof.Machine.execAndLong long s
  | .bmi rel => Sys2Proof.Machine.execBmi rel s
  | .andDpIndY dp => Sys2Proof.Machine.execAndDpIndY dp s
  | .andDpInd dp => Sys2Proof.Machine.execAndDpInd dp s
  | .andSrIndY sr => Sys2Proof.Machine.execAndSrIndY sr s
  | .bitDpX dp => Sys2Proof.Machine.execBitDpX dp s
  | .andDpX dp => Sys2Proof.Machine.execAndDpX dp s
  | .rolDpX dp => Sys2Proof.Machine.execRolDpX dp s
  | .andDpIndLongY dp => Sys2Proof.Machine.execAndDpIndLongY dp s
  | .sec => Sys2Proof.Machine.execSec s
  | .andAbsY addr => Sys2Proof.Machine.execAndAbsY addr s
  | .decAcc => Sys2Proof.Machine.execDecAcc s
  | .tsc => Sys2Proof.Machine.execTsc s
  | .bitAbsX addr => Sys2Proof.Machine.execBitAbsX addr s
  | .andAbsX addr => Sys2Proof.Machine.execAndAbsX addr s
  | .rolAbsX addr => Sys2Proof.Machine.execRolAbsX addr s
  | .andLongX long => Sys2Proof.Machine.execAndLongX long s
  | .rti => Sys2Proof.Machine.execRti s
  | .eorDpXInd dp => Sys2Proof.Machine.execEorDpXInd dp s
  | .wdm imm => Sys2Proof.Machine.execWdm imm s
  | .eorSr sr => Sys2Proof.Machine.execEorSr sr s
  | .mvp dbk sbk => Sys2Proof.Machine.execMvp dbk sbk s
  | .eorDp dp => Sys2Proof.Machine.execEorDp dp s
  | .lsrDp dp => Sys2Proof.Machine.execLsrDp dp s
  | .eorDpIndLong dp => Sys2Proof.Machine.execEorDpIndLong dp s
  | .pha => Sys2Proof.Machine.execPha s
  | .eorImm v => Sys2Proof.Machine.execEorImm v s
  | .lsrAcc => Sys2Proof.Machine.execLsrAcc s
  | .phk => Sys2Proof.Machine.execPhk s
  | .jmpAbs addr => Sys2Proof.Machine.execJmpAbs addr s
  | .eorAbs addr => Sys2Proof.Machine.execEorAbs addr s
  | .lsrAbs addr => Sys2Proof.Machine.execLsrAbs addr s
  | .eorLong long => Sys2Proof.Machine.execEorLong long s
  | .bvc rel => Sys2Proof.Machine.execBvc rel s
  | .eorDpIndY dp => Sys2Proof.Machine.execEorDpIndY dp s
  | .eorDpInd dp => Sys2Proof.Machine.execEorDpInd dp s
  | .eorSrIndY sr => Sys2Proof.Machine.execEorSrIndY sr s
  | .mvn dbk sbk => Sys2Proof.Machine.execMvn dbk sbk s
  | .eorDpX dp => Sys2Proof.Machine.execEorDpX dp s
  | .lsrDpX dp => Sys2Proof.Machine.execLsrDpX dp s
  | .eorDpIndLongY dp => Sys2Proof.Machine.execEorDpIndLongY dp s
  | .cli => Sys2Proof.Machine.execCli s
  | .eorAbsY addr => Sys2Proof.Machine.execEorAbsY addr s
  | .phy => Sys2Proof.Machine.execPhy s
  | .tcd => Sys2Proof.Machine.execTcd s
  | .jmlLong long => Sys2Proof.Machine.execJmlLong long s
  | .eorAbsX addr => Sys2Proof.Machine.execEorAbsX addr s
  | .lsrAbsX addr => Sys2Proof.Machine.execLsrAbsX addr s
  | .eorLongX long => Sys2Proof.Machine.execEorLongX long s
  | .rts => Sys2Proof.Machine.execRts s
  | .adcDpXInd dp => Sys2Proof.Machine.execAdcDpXInd dp s
  | .per rel => Sys2Proof.Machine.execPer rel s
  | .adcSr sr => Sys2Proof.Machine.execAdcSr sr s
  | .stzDp dp => Sys2Proof.Machine.execStzDp dp s
  | .adcDp dp => Sys2Proof.Machine.execAdcDp dp s
  | .rorDp dp => Sys2Proof.Machine.execRorDp dp s
  | .adcDpIndLong dp => Sys2Proof.Machine.execAdcDpIndLong dp s
  | .pla => Sys2Proof.Machine.execPla s
  | .adcImm v => Sys2Proof.Machine.execAdcImm v s
  | .rorAcc => Sys2Proof.Machine.execRorAcc s
  | .rtl => Sys2Proof.Machine.execRtl s
  | .jmpAbsInd addr => Sys2Proof.Machine.execJmpAbsInd addr s
  | .adcAbs addr => Sys2Proof.Machine.execAdcAbs addr s
  | .rorAbs addr => Sys2Proof.Machine.execRorAbs addr s
  | .adcLong long => Sys2Proof.Machine.execAdcLong long s
  | .bvs rel => Sys2Proof.Machine.execBvs rel s
  | .adcDpIndY dp => Sys2Proof.Machine.execAdcDpIndY dp s
  | .adcDpInd dp => Sys2Proof.Machine.execAdcDpInd dp s
  | .adcSrIndY sr => Sys2Proof.Machine.execAdcSrIndY sr s
  | .stzDpX dp => Sys2Proof.Machine.execStzDpX dp s
  | .adcDpX dp => Sys2Proof.Machine.execAdcDpX dp s
  | .rorDpX dp => Sys2Proof.Machine.execRorDpX dp s
  | .adcDpIndLongY dp => Sys2Proof.Machine.execAdcDpIndLongY dp s
  | .sei => Sys2Proof.Machine.execSei s
  | .adcAbsY addr => Sys2Proof.Machine.execAdcAbsY addr s
  | .ply => Sys2Proof.Machine.execPly s
  | .tdc => Sys2Proof.Machine.execTdc s
  | .jmpAbsXInd addr => Sys2Proof.Machine.execJmpAbsXInd addr s
  | .adcAbsX addr => Sys2Proof.Machine.execAdcAbsX addr s
  | .rorAbsX addr => Sys2Proof.Machine.execRorAbsX addr s
  | .adcLongX long => Sys2Proof.Machine.execAdcLongX long s
  | .bra rel => Sys2Proof.Machine.execBra rel s
  | .staDpXInd dp => Sys2Proof.Machine.execStaDpXInd dp s
  | .brl rel => Sys2Proof.Machine.execBrl rel s
  | .staSr sr => Sys2Proof.Machine.execStaSr sr s
  | .styDp dp => Sys2Proof.Machine.execStyDp dp s
  | .staDp dp => Sys2Proof.Machine.execStaDp dp s
  | .stxDp dp => Sys2Proof.Machine.execStxDp dp s
  | .staDpIndLong dp => Sys2Proof.Machine.execStaDpIndLong dp s
  | .dey => Sys2Proof.Machine.execDey s
  | .bitImm v => Sys2Proof.Machine.execBitImm v s
  | .txa => Sys2Proof.Machine.execTxa s
  | .phb => Sys2Proof.Machine.execPhb s
  | .styAbs addr => Sys2Proof.Machine.execStyAbs addr s
  | .staAbs addr => Sys2Proof.Machine.execStaAbs addr s
  | .stxAbs addr => Sys2Proof.Machine.execStxAbs addr s
  | .staLong long => Sys2Proof.Machine.execStaLong long s
  | .bcc rel => Sys2Proof.Machine.execBcc rel s
  | .staDpIndY dp => Sys2Proof.Machine.execStaDpIndY dp s
  | .staDpInd dp => Sys2Proof.Machine.execStaDpInd dp s
  | .staSrIndY sr => Sys2Proof.Machine.execStaSrIndY sr s
  | .styDpX dp => Sys2Proof.Machine.execStyDpX dp s
  | .staDpX dp => Sys2Proof.Machine.execStaDpX dp s
  | .stxDpY dp => Sys2Proof.Machine.execStxDpY dp s
  | .staDpIndLongY dp => Sys2Proof.Machine.execStaDpIndLongY dp s
  | .tya => Sys2Proof.Machine.execTya s
  | .staAbsY addr => Sys2Proof.Machine.execStaAbsY addr s
  | .txs => Sys2Proof.Machine.execTxs s
  | .txy => Sys2Proof.Machine.execTxy s
  | .stzAbs addr => Sys2Proof.Machine.execStzAbs addr s
  | .staAbsX addr => Sys2Proof.Machine.execStaAbsX addr s
  | .stzAbsX addr => Sys2Proof.Machine.execStzAbsX addr s
  | .staLongX long => Sys2Proof.Machine.execStaLongX long s
  | .ldyImm v => Sys2Proof.Machine.execLdyImm v s
  | .ldaDpXInd dp => Sys2Proof.Machine.execLdaDpXInd dp s
  | .ldxImm v => Sys2Proof.Machine.execLdxImm v s
  | .ldaSr sr => Sys2Proof.Machine.execLdaSr sr s
  | .ldyDp dp => Sys2Proof.Machine.execLdyDp dp s
  | .ldaDp dp => Sys2Proof.Machine.execLdaDp dp s
  | .ldxDp dp => Sys2Proof.Machine.execLdxDp dp s
  | .ldaDpIndLong dp => Sys2Proof.Machine.execLdaDpIndLong dp s
  | .tay => Sys2Proof.Machine.execTay s
  | .ldaImm v => Sys2Proof.Machine.execLdaImm v s
  | .tax => Sys2Proof.Machine.execTax s
  | .plb => Sys2Proof.Machine.execPlb s
  | .ldyAbs addr => Sys2Proof.Machine.execLdyAbs addr s
  | .ldaAbs addr => Sys2Proof.Machine.execLdaAbs addr s
  | .ldxAbs addr => Sys2Proof.Machine.execLdxAbs addr s
  | .ldaLong long => Sys2Proof.Machine.execLdaLong long s
  | .bcs rel => Sys2Proof.Machine.execBcs rel s
  | .ldaDpIndY dp => Sys2Proof.Machine.execLdaDpIndY dp s
  | .ldaDpInd dp => Sys2Proof.Machine.execLdaDpInd dp s
  | .ldaSrIndY sr => Sys2Proof.Machine.execLdaSrIndY sr s
  | .ldyDpX dp => Sys2Proof.Machine.execLdyDpX dp s
  | .ldaDpX dp => Sys2Proof.Machine.execLdaDpX dp s
  | .ldxDpY dp => Sys2Proof.Machine.execLdxDpY dp s
  | .ldaDpIndLongY dp => Sys2Proof.Machine.execLdaDpIndLongY dp s
  | .clv => Sys2Proof.Machine.execClv s
  | .ldaAbsY addr => Sys2Proof.Machine.execLdaAbsY addr s
  | .tsx => Sys2Proof.Machine.execTsx s
  | .tyx => Sys2Proof.Machine.execTyx s
  | .ldyAbsX addr => Sys2Proof.Machine.execLdyAbsX addr s
  | .ldaAbsX addr => Sys2Proof.Machine.execLdaAbsX addr s
  | .ldxAbsY addr => Sys2Proof.Machine.execLdxAbsY addr s
  | .ldaLongX long => Sys2Proof.Machine.execLdaLongX long s
  | .cpyImm v => Sys2Proof.Machine.execCpyImm v s
  | .cmpDpXInd dp => Sys2Proof.Machine.execCmpDpXInd dp s
  | .rep imm => Sys2Proof.Machine.execRep imm s
  | .cmpSr sr => Sys2Proof.Machine.execCmpSr sr s
  | .cpyDp dp => Sys2Proof.Machine.execCpyDp dp s
  | .cmpDp dp => Sys2Proof.Machine.execCmpDp dp s
  | .decDp dp => Sys2Proof.Machine.execDecDp dp s
  | .cmpDpIndLong dp => Sys2Proof.Machine.execCmpDpIndLong dp s
  | .iny => Sys2Proof.Machine.execIny s
  | .cmpImm v => Sys2Proof.Machine.execCmpImm v s
  | .dex => Sys2Proof.Machine.execDex s
  | .wai => Sys2Proof.Machine.execWai s
  | .cpyAbs addr => Sys2Proof.Machine.execCpyAbs addr s
  | .cmpAbs addr => Sys2Proof.Machine.execCmpAbs addr s
  | .decAbs addr => Sys2Proof.Machine.execDecAbs addr s
  | .cmpLong long => Sys2Proof.Machine.execCmpLong long s
  | .bne rel => Sys2Proof.Machine.execBne rel s
  | .cmpDpIndY dp => Sys2Proof.Machine.execCmpDpIndY dp s
  | .cmpDpInd dp => Sys2Proof.Machine.execCmpDpInd dp s
  | .cmpSrIndY sr => Sys2Proof.Machine.execCmpSrIndY sr s
  | .pei dp => Sys2Proof.Machine.execPei dp s
  | .cmpDpX dp => Sys2Proof.Machine.execCmpDpX dp s
  | .decDpX dp => Sys2Proof.Machine.execDecDpX dp s
  | .cmpDpIndLongY dp => Sys2Proof.Machine.execCmpDpIndLongY dp s
  | .cld => Sys2Proof.Machine.execCld s
  | .cmpAbsY addr => Sys2Proof.Machine.execCmpAbsY addr s
  | .phx => Sys2Proof.Machine.execPhx s
  | .stp => Sys2Proof.Machine.execStp s
  | .jmlAbsIndLong addr => Sys2Proof.Machine.execJmlAbsIndLong addr s
  | .cmpAbsX addr => Sys2Proof.Machine.execCmpAbsX addr s
  | .decAbsX addr => Sys2Proof.Machine.execDecAbsX addr s
  | .cmpLongX long => Sys2Proof.Machine.execCmpLongX long s
  | .cpxImm v => Sys2Proof.Machine.execCpxImm v s
  | .sbcDpXInd dp => Sys2Proof.Machine.execSbcDpXInd dp s
  | .sep imm => Sys2Proof.Machine.execSep imm s
  | .sbcSr sr => Sys2Proof.Machine.execSbcSr sr s
  | .cpxDp dp => Sys2Proof.Machine.execCpxDp dp s
  | .sbcDp dp => Sys2Proof.Machine.execSbcDp dp s
  | .incDp dp => Sys2Proof.Machine.execIncDp dp s
  | .sbcDpIndLong dp => Sys2Proof.Machine.execSbcDpIndLong dp s
  | .inx => Sys2Proof.Machine.execInx s
  | .sbcImm v => Sys2Proof.Machine.execSbcImm v s
  | .nop => Sys2Proof.Machine.execNop s
  | .xba => Sys2Proof.Machine.execXba s
  | .cpxAbs addr => Sys2Proof.Machine.execCpxAbs addr s
  | .sbcAbs addr => Sys2Proof.Machine.execSbcAbs addr s
  | .incAbs addr => Sys2Proof.Machine.execIncAbs addr s
  | .sbcLong long => Sys2Proof.Machine.execSbcLong long s
  | .beq rel => Sys2Proof.Machine.execBeq rel s
  | .sbcDpIndY dp => Sys2Proof.Machine.execSbcDpIndY dp s
  | .sbcDpInd dp => Sys2Proof.Machine.execSbcDpInd dp s
  | .sbcSrIndY sr => Sys2Proof.Machine.execSbcSrIndY sr s
  | .pea addr => Sys2Proof.Machine.execPea addr s
  | .sbcDpX dp => Sys2Proof.Machine.execSbcDpX dp s
  | .incDpX dp => Sys2Proof.Machine.execIncDpX dp s
  | .sbcDpIndLongY dp => Sys2Proof.Machine.execSbcDpIndLongY dp s
  | .sed => Sys2Proof.Machine.execSed s
  | .sbcAbsY addr => Sys2Proof.Machine.execSbcAbsY addr s
  | .plx => Sys2Proof.Machine.execPlx s
  | .xce => Sys2Proof.Machine.execXce s
  | .jsrAbsXInd addr => Sys2Proof.Machine.execJsrAbsXInd addr s
  | .sbcAbsX addr => Sys2Proof.Machine.execSbcAbsX addr s
  | .incAbsX addr => Sys2Proof.Machine.execIncAbsX addr s
  | .sbcLongX long => Sys2Proof.Machine.execSbcLongX long s

end Sys2Proof.Machine
end

