-- ==== Sys2Proof/Machine/Fetch.lean ====
section
/-! DEFINITION. Fetching and assembling one instruction (30_encoding.md R142 to R144; 45_control.md R293, R294). -/
namespace Sys2Proof.Machine

/-- The opcodes whose last operand byte is fetched by the operation itself, after a push: JSL (45_control.md R294) and
JSR (addr,X) (R293). -/
def fetchesLate (op : Byte) : Bool := op == 0x22 || op == 0xFC

/-- The bytes some fetches return and the state after them. -/
structure BytesRead where
  bytes : List Byte
  st : State
  deriving DecidableEq, Repr

/-- `n` times `Fetch8()`. -/
def State.fetchBytes : Nat → State → BytesRead
  | 0, s => { bytes := [], st := s }
  | n + 1, s =>
    let b := s.fetch8
    let rest := State.fetchBytes n b.st
    { bytes := b.v :: rest.bytes, st := rest.st }

/-- The instruction a fetch assembles and the state in which its operation runs. -/
structure Fetched where
  instr : Instr
  st : State
  deriving DecidableEq, Repr

/-- Fetch the opcode and the operand bytes that come before the operation, under the widths in force when the opcode is
fetched (30_encoding.md R142, R143). A last byte that the operation fetches itself is only looked at here, to name the
instruction: the operation reads it again, after its push (log 13). -/
def State.fetchInstr (s : State) : Fetched :=
  let op := s.fetch8
  let row := opcodeRow op.v
  let n := row.operandBytes s.cpu.m s.cpu.xw
  let early := op.st.fetchBytes (if fetchesLate op.v then n - 1 else n)
  let late := early.st.bus.peek (mkAddr early.st.cpu.pb early.st.cpu.pc)
  let bytes := if fetchesLate op.v then early.bytes ++ [late] else early.bytes
  { instr := row.build s.cpu.m s.cpu.xw (bytes.getD 0 0) (bytes.getD 1 0) (bytes.getD 2 0), st := early.st }

end Sys2Proof.Machine
end

