-- ==== Sys2Proof/Machine/Schedule.lean ====
section
/-! DEFINITION. One CPU step with its interrupt check, and the frame schedule that interleaves CPU, DMA, HDMA, PPU and APU (60_exceptions.md R405, R443, R447). -/
namespace Sys2Proof.Machine

/-- Fetch the next instruction and run it (60_exceptions.md R405, the last two lines). -/
def State.runInstr (s : State) : Out :=
  let f := s.fetchInstr
  exec f.instr f.st

/-- The state with another run state. -/
def State.withRun (s : State) (r : RunState) : State := s.withCpu { s.cpu with run := r }

/-- The state with the NMI latch cleared. -/
def State.ackNmi (s : State) : State := s.withBus { s.bus with nmiPending := false }

/-- An IRQ is taken: the line is active and P.I is 0 (60_exceptions.md R405, R408). -/
def State.irqTaken (s : State) : Bool := s.bus.irqLine && !s.cpu.flag .i

/-- `step()` of the processor (60_exceptions.md R405). -/
def State.cpuStep (s : State) : Out :=
  if s.resetRequest then .next ({ s with resetRequest := false }).resetSequence
  else if s.cpu.run = .stopped then .next s
  else if s.bus.nmiPending then .next ((s.ackNmi.withRun .running).interrupt .nmi)
  else if s.irqTaken then .next ((s.withRun .running).interrupt .irq)
  else if s.cpu.run = .waiting then
    if s.bus.irqLine then (s.withRun .running).runInstr else .next s
  else s.runInstr

/-- NMITIMEN bit 5, `virq_enable` (60_exceptions.md R416). -/
def Platform.virq (pl : Platform) : Bool := pl.nmitimen.getLsbD 5

/-- NMITIMEN bit 4, `hirq_enable` (60_exceptions.md R416). -/
def Platform.hirq (pl : Platform) : Bool := pl.nmitimen.getLsbD 4

/-- `timeup_flag <- 1`. -/
def Bus.raiseTimer (b : Bus) : Bus := { b with plat := { b.plat with timeup := true } }

/-- Timer mode 10 matches scanline `y` (60_exceptions.md R443). -/
def Platform.vTimerMatches (pl : Platform) (y : Nat) : Bool := pl.virq && !pl.hirq && y == pl.vtime.toNat

/-- Timer modes 01 and 11 match scanline `y`; an `htime` above 339 never matches (60_exceptions.md R443). -/
def Platform.hTimerMatches (pl : Platform) (y : Nat) : Bool :=
  pl.hirq && (!pl.virq || y == pl.vtime.toNat) && decide (pl.htime.toNat ≤ 339)

/-- The start of scanline `y` (60_exceptions.md R447): timer mode 10, then the draws of `SLICE(y)` and of the step an
H-timer IRQ precedes (log 9). -/
def State.startLine (s : State) (y : Nat) : State :=
  let b := if s.bus.plat.vTimerMatches y then s.bus.raiseTimer else s.bus
  let n := Config.freeNat b.draws + 1
  let j := Config.freeNat (b.draws + 1) % n
  { s with bus := { b with draws := b.draws + 2 }, frame := some { line := y, left := n, timerAt := n - j } }

/-- Run the general DMA that `after_slice` left pending (60_exceptions.md R424, R438, R447): write after write, oldest first,
with the channel registers as they stand when each transfer begins (log 22). -/
def Bus.runPending (b : Bus) : Bus :=
  match b.cfg.dmaTiming with
  | .immediate => b
  | .afterSlice => b.dmaPending.foldl Bus.runDmaMask { b with dmaPending := [] }

/-- The DMA/HDMA phase of scanline `y` (60_exceptions.md R440, R441, R447). -/
def Bus.dmaPhase (b : Bus) (y : Nat) : Bus :=
  let b1 := b.runPending
  if y < b1.cfg.vblankLine then
    let b2 := if b1.cfg.hdmaFrameReinit && y == 0 then b1.hdmaInitMask b1.plat.hdmaen else b1
    b2.hdmaLines
  else b1

/-- The VBlank event (60_exceptions.md R406, R436). -/
def Bus.vblankEvent (b : Bus) : Bus :=
  let joy := if b.plat.nmitimen.getLsbD 0 then b.pads.mask else b.plat.joy
  { b with
    plat := { b.plat with vblank := true, rdnmi := true, joy := joy }
    nmiPending := b.nmiPending || b.plat.nmitimen.getLsbD 7 }

/-- The PPU phase of scanline `y` (60_exceptions.md R447). -/
def Bus.ppuPhase (b : Bus) (y : Nat) : Bus :=
  let b1 := if y = 0 then { b with plat := { b.plat with rdnmi := false, vblank := false } } else b
  if y = b1.cfg.vblankLine then b1.vblankEvent else b1

/-- The APU phase (60_exceptions.md R447, 20_memory.md R87): the ports become draws (log 7). -/
def Bus.apuPhase (b : Bus) : Bus :=
  { b with
    fromApu := ⟨Config.freeByte b.draws, Config.freeByte (b.draws + 1), Config.freeByte (b.draws + 2), Config.freeByte (b.draws + 3)⟩
    draws := b.draws + 4 }

/-- The agents that act after the slice of scanline `y`, in order (60_exceptions.md R447). -/
def Bus.endLine (b : Bus) (y : Nat) : Bus := ((b.dmaPhase y).ppuPhase y).apuPhase

/-- The next scanline, or the end of the frame (60_exceptions.md R447). -/
def State.nextLine (s : State) (y : Nat) : State :=
  if y + 1 < s.bus.cfg.linesPerFrame then s.startLine (y + 1) else { s with frame := none }

/-- One CPU step of a frame's slice: before the drawn step a matching H timer fires (60_exceptions.md R443, R447). -/
def State.sliceStep (s : State) (f : FrameState) (left : Nat) : Out :=
  let s1 := if f.left == f.timerAt && s.bus.plat.hTimerMatches f.line then s.withBus s.bus.raiseTimer else s
  match s1.cpuStep with
  | .next t => .next { t with frame := some { f with left := left } }
  | .fault r => .fault r
  | .refused r => .refused r

/-- One step of the machine: the host's `step()` outside a frame (60_exceptions.md R447, R450); inside one, a CPU step of
the slice, or the other agents once the slice is used up (log 10). -/
def State.machineStep (s : State) : Out :=
  match s.frame with
  | none => s.cpuStep
  | some f =>
    match f.left with
    | k + 1 => s.sliceStep f k
    | 0 => .next ((s.withBus (s.bus.endLine f.line)).nextLine f.line)

end Sys2Proof.Machine
end

