-- ==== Sys2Proof/Machine/HostCalls.lean ====
section
/-! DEFINITION. What the host can do to the machine between steps (60_exceptions.md R450; 70_reset_and_hazards.md R500), and placing an instruction where the next step fetches it. -/
namespace Sys2Proof.Machine

/-- `reset()` (70_reset_and_hazards.md R500): request reset, run one step at once, restart the frame schedule. -/
def State.hostReset (s : State) : Out := State.cpuStep { s with resetRequest := true, frame := none }

/-- `load_rom(bytes)` after the header has chosen `mapper` and `sramSize` (70_reset_and_hazards.md R500, 20_memory.md R94):
fix the cartridge, its SRAM at power-on, and reset. -/
def State.loadRom (s : State) (mapper : Mapper) (bytes : List Byte) (sramSize : Nat) : Out :=
  State.hostReset (s.withBus { s.bus with
    cart := { mapper := mapper, romSize := bytes.length, sramSize := sramSize, rom := Memory.image 0 bytes }
    sram := [] })

/-- `set_controller(p, mask)` (60_exceptions.md R436, R450). -/
def State.setController (s : State) (p : BitVec 2) (mask : Word) : State :=
  s.withBus { s.bus with pads := { s.bus.pads with mask := s.bus.pads.mask.set p mask } }

/-- `sram_snapshot()` (20_memory.md R94). -/
def State.sramSnapshot (s : State) : List Byte := Memory.bytes s.bus.sram 0 s.bus.cart.sramSize

/-- `sram_load(bytes)` (20_memory.md R94, which gives an image of the full length). DESIGN CHOICE (log 25): a longer image is cut to
`SRAM_SIZE`, and a shorter one replaces the whole store, so that the bytes past its end read 0x00. -/
def State.sramLoad (s : State) (bytes : List Byte) : State :=
  s.withBus { s.bus with sram := Memory.image 0 (bytes.take s.bus.cart.sramSize) }

/-- `save_state()`: the whole state, whatever bytes a host writes it as (60_exceptions.md R411, R450). -/
def State.saveState (s : State) : State := s

/-- `load_state(blob)`: every piece of state becomes the saved one (60_exceptions.md R450). The parameters and the cartridge
are no state and stay. -/
def State.loadState (s : State) (saved : State) : State :=
  { saved with bus := { saved.bus with cfg := s.bus.cfg, cart := s.bus.cart } }

/-- `step_frame()` (60_exceptions.md R447, R450): the frame begins at scanline 0; steps then run it to its end. -/
def State.beginFrame (s : State) : State :=
  if 0 < s.bus.cfg.linesPerFrame then s.startLine 0 else s

/-- A byte put into the store an address selects, by no bus access; other targets are left alone. -/
def Bus.place (b : Bus) (addr : Addr) (v : Byte) : Bus :=
  match busTarget b.cfg b.cart addr with
  | .wram k => { b with wram := Memory.write b.wram k v }
  | .sram k => { b with sram := Memory.write b.sram k v }
  | .rom k => { b with cart := { b.cart with rom := Memory.write b.cart.rom k v } }
  | _ => b

/-- Bytes put at consecutive offsets of a bank. -/
def Bus.placeAll (bank : Byte) : Word → List Byte → Bus → Bus
  | _, [], b => b
  | off, v :: vs, b => Bus.placeAll bank (off + 1) vs (b.place (mkAddr bank off) v)

/-- The address selects a byte of WRAM, SRAM or ROM. -/
def Target.isStore : Target → Bool
  | .wram _ => true
  | .sram _ => true
  | .rom _ => true
  | _ => false

/-- The bytes stand at consecutive offsets of a bank, in stores. -/
def Bus.holds (b : Bus) (bank : Byte) : Word → List Byte → Bool
  | _, [] => true
  | off, v :: vs =>
    (busTarget b.cfg b.cart (mkAddr bank off)).isStore && b.peek (mkAddr bank off) == v && Bus.holds b bank (off + 1) vs

/-- Nothing keeps the next step from fetching: no reset request, no frame in progress, running, no event to take. -/
def State.readyToFetch (s : State) : State :=
  let pl := { s.bus.plat with timeup := s.bus.plat.timeup && s.cpu.flag .i }
  { s with
    cpu := { s.cpu with run := .running }
    bus := { s.bus with nmiPending := false, plat := pl }
    resetRequest := false
    frame := none }

/-- The bytes at PB:PC; where PB:PC does not select four distinct store bytes, at 0x7E:0000 in WRAM, with PB:PC there. -/
def State.placeNext (s : State) (bytes : List Byte) : State :=
  let b := Bus.placeAll s.cpu.pb s.cpu.pc bytes s.bus
  if b.holds s.cpu.pb s.cpu.pc bytes then s.withBus b
  else (s.withCpu { s.cpu with pb := 0x7E, pc := 0 }).withBus (Bus.placeAll 0x7E 0 bytes s.bus)

/-- The word of an opcode-table row placed where the next step fetches (log 14). -/
def State.placeTableWord (s : State) (nbits w : Nat) : State := s.readyToFetch.placeNext (tableBytes nbits w)

end Sys2Proof.Machine
end

