-- ==== Sys2Proof/Machine/Step.lean ====
section
/-! DEFINITION. The machine's step, and the state whose next step runs a given opcode-table word. -/
namespace Sys2Proof.Machine

/-- One step of the machine (60_exceptions.md R405, R447). -/
def step : State → Host.Outcome State Fault Refusal := State.machineStep

/-- The state with the word of an opcode-table row where the next step fetches its instruction (log 14). -/
def State.withFetchWord (s : State) (nbits w : Nat) : State := s.placeTableWord nbits w

end Sys2Proof.Machine
end

