-- ==== Sys2Proof/Safety.lean ====
section
/-! DEFINITION. What a safe state is: the invariants the spec says hold at every instruction boundary (10_state.md R42, R43) and the canonical form of the stores. -/
namespace Sys2Proof.Machine

/-- 10_state.md R42: when P.X = 1 the high bytes of X and Y are zero. -/
def Cpu.IndexInv (c : Cpu) : Prop := c.flag .x = true → hiByte c.x = 0 ∧ hiByte c.y = 0

/-- 10_state.md R43: when E = 1, P.M and P.X are 1 and SH is 0x01. -/
def Cpu.EmulationInv (c : Cpu) : Prop := c.e = true → c.flag .m = true ∧ c.flag .x = true ∧ hiByte c.s = 0x01

/-- Both invariants of the registers. -/
def Cpu.Inv (c : Cpu) : Prop := c.IndexInv ∧ c.EmulationInv

/-- Every store is in canonical form and inside its size (20_memory.md R81). -/
structure Bus.StoresWf (b : Bus) : Prop where
  wram_wf : Memory.wf b.wram = true
  wram_below : Memory.below 0x20000 b.wram = true
  sram_wf : Memory.wf b.sram = true
  sram_below : Memory.below b.cart.sramSize b.sram = true
  rom_wf : Memory.wf b.cart.rom = true
  rom_below : Memory.below b.cart.romSize b.cart.rom = true

/-- The invariant of the machine at every step boundary. -/
def State.Inv (s : State) : Prop := s.cpu.Inv ∧ s.bus.StoresWf

/-- The byte of WRAM, SRAM or ROM that an address selects, none where it selects a device or nothing (20_memory.md R82).
Two addresses that select one byte read alike. -/
def Bus.storeByte (b : Bus) (a : Addr) : Option Byte :=
  match busTarget b.cfg b.cart a with
  | .wram k => some (Memory.read b.wram k)
  | .sram k => some (Memory.read b.sram k)
  | .rom k => some (Memory.read b.cart.rom k)
  | _ => none

/-- A write to this target touches no byte of a store other than the one it selects: it is neither WMDATA, which writes
WRAM at its pointer (20_memory.md R88), nor one of the two DMA triggers (60_exceptions.md R424, R425). -/
def Target.plain : Target → Bool
  | .wramPort r => !(r == 0)
  | .platform r => !(r == 0x0B) && !(r == 0x0C)
  | _ => true

/-- The target is a byte of WRAM or SRAM, which keeps what is written to it. -/
def Target.isRam : Target → Bool
  | .wram _ => true
  | .sram _ => true
  | _ => false

/-- Everything a run of reads can change: the latch, the draws, WRAMADD, the two acknowledged flags and the serial shift
registers. -/
def Bus.Reads (b b' : Bus) : Prop :=
  b' = { b with
    latch := b'.latch
    draws := b'.draws
    wramPtr := b'.wramPtr
    plat := { b.plat with rdnmi := b'.plat.rdnmi, timeup := b'.plat.timeup }
    pads := { b.pads with shift0 := b'.pads.shift0, shift1 := b'.pads.shift1 } }

/-- An address selects the same target as one of a list of addresses. -/
def Bus.among (b : Bus) (as : List Addr) (a : Addr) : Prop :=
  ∃ x ∈ as, busTarget b.cfg b.cart x = busTarget b.cfg b.cart a

end Sys2Proof.Machine
end

