-- ==== Sys2Proof/Certificates/Slice0/Obligations.lean ====
section
/-! DEFINITION. The statements for the provers, one definition each, and the vocabulary they share, written from the rules and not from the model's operations. -/

namespace Sys2Proof.Claims
open Sys2Proof.Machine

/-! Flags of P, bit 7 to bit 0 (10_state.md R46), and the two widths (00_scope.md R11). -/

def fN (s : State) : Bool := s.cpu.p.getLsbD 7
def fV (s : State) : Bool := s.cpu.p.getLsbD 6
def fM (s : State) : Bool := s.cpu.p.getLsbD 5
def fX (s : State) : Bool := s.cpu.p.getLsbD 4
def fD (s : State) : Bool := s.cpu.p.getLsbD 3
def fI (s : State) : Bool := s.cpu.p.getLsbD 2
def fZ (s : State) : Bool := s.cpu.p.getLsbD 1
def fC (s : State) : Bool := s.cpu.p.getLsbD 0

/-- The width m. -/
def mWidth (s : State) : Width := if fM s then .b8 else .b16

/-- The width x. -/
def xWidth (s : State) : Width := if fX s then .b8 else .b16

/-- P with N replaced. -/
def putN (p : Byte) (b : Bool) : Byte := (p &&& 0x7F) ||| (if b then 0x80 else 0x00)

/-- P with V replaced. -/
def putV (p : Byte) (b : Bool) : Byte := (p &&& 0xBF) ||| (if b then 0x40 else 0x00)

/-- P with Z replaced. -/
def putZ (p : Byte) (b : Bool) : Byte := (p &&& 0xFD) ||| (if b then 0x02 else 0x00)

/-- P with C replaced. -/
def putC (p : Byte) (b : Bool) : Byte := (p &&& 0xFE) ||| (if b then 0x01 else 0x00)

/-- Bit w-1 of a value. -/
def top (w : Width) (v : Word) : Bool :=
  match w with
  | .b8 => v.getLsbD 7
  | .b16 => v.getLsbD 15

/-- Bit w-2 of a value. -/
def second (w : Width) (v : Word) : Bool :=
  match w with
  | .b8 => v.getLsbD 6
  | .b16 => v.getLsbD 14

/-- The value is zero at its width. -/
def isZero (w : Width) (v : Word) : Bool :=
  match w with
  | .b8 => loByte v == 0
  | .b16 => v == 0

/-- `SetNZ_w(v)` (00_scope.md R13). -/
def nz (p : Byte) (w : Width) (v : Word) : Byte := putZ (putN p (top w v)) (isZero w v)

/-- A value at its width (00_scope.md R11). -/
def low (w : Width) (v : Word) : Word :=
  match w with
  | .b8 => zext (loByte v)
  | .b16 => v

/-- A register after a write at a width: 8 bits leave the high byte alone (00_scope.md R11). -/
def written (w : Width) (old new : Word) : Word :=
  match w with
  | .b8 => mkWord (hiByte old) (loByte new)
  | .b16 => new

/-! The stack (40_addressing.md R196, R197). `nw` is `NoWrapOp`. -/

/-- The stack pointer `k` bytes further down. -/
def stackDown (nw : Bool) (c : Cpu) (k : Nat) : Word :=
  if c.e && !nw then mkWord (hiByte c.s) (loByte c.s - BitVec.ofNat 8 k) else c.s - BitVec.ofNat 16 k

/-- The stack pointer `k` bytes further up. -/
def stackUp (nw : Bool) (c : Cpu) (k : Nat) : Word :=
  if c.e && !nw then mkWord (hiByte c.s) (loByte c.s + BitVec.ofNat 8 k) else c.s + BitVec.ofNat 16 k

/-- One byte pushed. -/
def pushByte (nw : Bool) (s : State) (v : Byte) : State :=
  { s with bus := s.bus.write (mkAddr 0 s.cpu.s) v, cpu := { s.cpu with s := stackDown nw s.cpu 1 } }

/-- Bytes pushed, the first of the list first. -/
def pushBytes (nw : Bool) (s : State) (vs : List Byte) : State := vs.foldl (pushByte nw) s

/-- A word pushed: high byte, then low byte. -/
def pushWord (nw : Bool) (s : State) (v : Word) : State := pushBytes nw s [hiByte v, loByte v]

/-- The byte the `k`-th pull reads, where the stack lies in a store. -/
def pullByte (nw : Bool) (s : State) (k : Nat) : Option Byte := s.bus.storeByte (mkAddr 0 (stackUp nw s.cpu k))

/-- The page a `NoWrapOp` leaves the stack pointer on. -/
def page1 (nw : Bool) (s : State) : State :=
  if nw && s.cpu.e then { s with cpu := { s.cpu with s := mkWord 0x01 (loByte s.cpu.s) } } else s

/-- `EMU_STACK_NEW_OPS_NOWRAP` (00_scope.md R9). -/
def newNoWrap (s : State) : Bool := s.bus.cfg.emuStackNewOpsNoWrap

/-- The bus after a read of a store returned `v`: only the latch changes. -/
def latched (s : State) (v : Byte) : State := { s with bus := { s.bus with latch := v } }

/-- Two consecutive bytes of a bank, in stores. -/
def word2 (b : Bus) (bank : Byte) (off : Word) (lo hi : Byte) : Prop :=
  b.storeByte (mkAddr bank off) = some lo ∧ b.storeByte (mkAddr bank (off + 1)) = some hi

/-- `SetP(v)` (10_state.md R49). -/
def setStatus (c : Cpu) (v : Byte) : Cpu :=
  let p := if c.e then v ||| 0x30 else v
  if p.getLsbD 4 then { c with p := p, x := zext (loByte c.x), y := zext (loByte c.y) } else { c with p := p }

/-! The instructions by form: every constructor of a family, with its operand. -/

/-- The instructions that read one operand and write registers or flags (41_load_store.md, 43_arithmetic.md, 44_logic_shift.md). -/
inductive ReadOp where
  | lda
  | ldx
  | ldy
  | adc
  | sbc
  | cmp
  | cpx
  | cpy
  | and
  | ora
  | eor
  | bit
  deriving DecidableEq, Repr

/-- Every form of the reading instructions, with its addressing mode. -/
def readForm : Instr → Option (ReadOp × Mode)
  | .oraDpXInd dp => some (.ora, .mem (.dpXInd dp))
  | .oraSr sr => some (.ora, .mem (.sr sr))
  | .oraDp dp => some (.ora, .mem (.dp dp))
  | .oraDpIndLong dp => some (.ora, .mem (.dpIndLong dp))
  | .oraImm v => some (.ora, .imm v)
  | .oraAbs addr => some (.ora, .mem (.abs addr))
  | .oraLong long => some (.ora, .mem (.long long))
  | .oraDpIndY dp => some (.ora, .mem (.dpIndY dp))
  | .oraDpInd dp => some (.ora, .mem (.dpInd dp))
  | .oraSrIndY sr => some (.ora, .mem (.srIndY sr))
  | .oraDpX dp => some (.ora, .mem (.dpX dp))
  | .oraDpIndLongY dp => some (.ora, .mem (.dpIndLongY dp))
  | .oraAbsY addr => some (.ora, .mem (.absY addr))
  | .oraAbsX addr => some (.ora, .mem (.absX addr))
  | .oraLongX long => some (.ora, .mem (.longX long))
  | .andDpXInd dp => some (.and, .mem (.dpXInd dp))
  | .andSr sr => some (.and, .mem (.sr sr))
  | .bitDp dp => some (.bit, .mem (.dp dp))
  | .andDp dp => some (.and, .mem (.dp dp))
  | .andDpIndLong dp => some (.and, .mem (.dpIndLong dp))
  | .andImm v => some (.and, .imm v)
  | .bitAbs addr => some (.bit, .mem (.abs addr))
  | .andAbs addr => some (.and, .mem (.abs addr))
  | .andLong long => some (.and, .mem (.long long))
  | .andDpIndY dp => some (.and, .mem (.dpIndY dp))
  | .andDpInd dp => some (.and, .mem (.dpInd dp))
  | .andSrIndY sr => some (.and, .mem (.srIndY sr))
  | .bitDpX dp => some (.bit, .mem (.dpX dp))
  | .andDpX dp => some (.and, .mem (.dpX dp))
  | .andDpIndLongY dp => some (.and, .mem (.dpIndLongY dp))
  | .andAbsY addr => some (.and, .mem (.absY addr))
  | .bitAbsX addr => some (.bit, .mem (.absX addr))
  | .andAbsX addr => some (.and, .mem (.absX addr))
  | .andLongX long => some (.and, .mem (.longX long))
  | .eorDpXInd dp => some (.eor, .mem (.dpXInd dp))
  | .eorSr sr => some (.eor, .mem (.sr sr))
  | .eorDp dp => some (.eor, .mem (.dp dp))
  | .eorDpIndLong dp => some (.eor, .mem (.dpIndLong dp))
  | .eorImm v => some (.eor, .imm v)
  | .eorAbs addr => some (.eor, .mem (.abs addr))
  | .eorLong long => some (.eor, .mem (.long long))
  | .eorDpIndY dp => some (.eor, .mem (.dpIndY dp))
  | .eorDpInd dp => some (.eor, .mem (.dpInd dp))
  | .eorSrIndY sr => some (.eor, .mem (.srIndY sr))
  | .eorDpX dp => some (.eor, .mem (.dpX dp))
  | .eorDpIndLongY dp => some (.eor, .mem (.dpIndLongY dp))
  | .eorAbsY addr => some (.eor, .mem (.absY addr))
  | .eorAbsX addr => some (.eor, .mem (.absX addr))
  | .eorLongX long => some (.eor, .mem (.longX long))
  | .adcDpXInd dp => some (.adc, .mem (.dpXInd dp))
  | .adcSr sr => some (.adc, .mem (.sr sr))
  | .adcDp dp => some (.adc, .mem (.dp dp))
  | .adcDpIndLong dp => some (.adc, .mem (.dpIndLong dp))
  | .adcImm v => some (.adc, .imm v)
  | .adcAbs addr => some (.adc, .mem (.abs addr))
  | .adcLong long => some (.adc, .mem (.long long))
  | .adcDpIndY dp => some (.adc, .mem (.dpIndY dp))
  | .adcDpInd dp => some (.adc, .mem (.dpInd dp))
  | .adcSrIndY sr => some (.adc, .mem (.srIndY sr))
  | .adcDpX dp => some (.adc, .mem (.dpX dp))
  | .adcDpIndLongY dp => some (.adc, .mem (.dpIndLongY dp))
  | .adcAbsY addr => some (.adc, .mem (.absY addr))
  | .adcAbsX addr => some (.adc, .mem (.absX addr))
  | .adcLongX long => some (.adc, .mem (.longX long))
  | .bitImm v => some (.bit, .imm v)
  | .ldyImm v => some (.ldy, .imm v)
  | .ldaDpXInd dp => some (.lda, .mem (.dpXInd dp))
  | .ldxImm v => some (.ldx, .imm v)
  | .ldaSr sr => some (.lda, .mem (.sr sr))
  | .ldyDp dp => some (.ldy, .mem (.dp dp))
  | .ldaDp dp => some (.lda, .mem (.dp dp))
  | .ldxDp dp => some (.ldx, .mem (.dp dp))
  | .ldaDpIndLong dp => some (.lda, .mem (.dpIndLong dp))
  | .ldaImm v => some (.lda, .imm v)
  | .ldyAbs addr => some (.ldy, .mem (.abs addr))
  | .ldaAbs addr => some (.lda, .mem (.abs addr))
  | .ldxAbs addr => some (.ldx, .mem (.abs addr))
  | .ldaLong long => some (.lda, .mem (.long long))
  | .ldaDpIndY dp => some (.lda, .mem (.dpIndY dp))
  | .ldaDpInd dp => some (.lda, .mem (.dpInd dp))
  | .ldaSrIndY sr => some (.lda, .mem (.srIndY sr))
  | .ldyDpX dp => some (.ldy, .mem (.dpX dp))
  | .ldaDpX dp => some (.lda, .mem (.dpX dp))
  | .ldxDpY dp => some (.ldx, .mem (.dpY dp))
  | .ldaDpIndLongY dp => some (.lda, .mem (.dpIndLongY dp))
  | .ldaAbsY addr => some (.lda, .mem (.absY addr))
  | .ldyAbsX addr => some (.ldy, .mem (.absX addr))
  | .ldaAbsX addr => some (.lda, .mem (.absX addr))
  | .ldxAbsY addr => some (.ldx, .mem (.absY addr))
  | .ldaLongX long => some (.lda, .mem (.longX long))
  | .cpyImm v => some (.cpy, .imm v)
  | .cmpDpXInd dp => some (.cmp, .mem (.dpXInd dp))
  | .cmpSr sr => some (.cmp, .mem (.sr sr))
  | .cpyDp dp => some (.cpy, .mem (.dp dp))
  | .cmpDp dp => some (.cmp, .mem (.dp dp))
  | .cmpDpIndLong dp => some (.cmp, .mem (.dpIndLong dp))
  | .cmpImm v => some (.cmp, .imm v)
  | .cpyAbs addr => some (.cpy, .mem (.abs addr))
  | .cmpAbs addr => some (.cmp, .mem (.abs addr))
  | .cmpLong long => some (.cmp, .mem (.long long))
  | .cmpDpIndY dp => some (.cmp, .mem (.dpIndY dp))
  | .cmpDpInd dp => some (.cmp, .mem (.dpInd dp))
  | .cmpSrIndY sr => some (.cmp, .mem (.srIndY sr))
  | .cmpDpX dp => some (.cmp, .mem (.dpX dp))
  | .cmpDpIndLongY dp => some (.cmp, .mem (.dpIndLongY dp))
  | .cmpAbsY addr => some (.cmp, .mem (.absY addr))
  | .cmpAbsX addr => some (.cmp, .mem (.absX addr))
  | .cmpLongX long => some (.cmp, .mem (.longX long))
  | .cpxImm v => some (.cpx, .imm v)
  | .sbcDpXInd dp => some (.sbc, .mem (.dpXInd dp))
  | .sbcSr sr => some (.sbc, .mem (.sr sr))
  | .cpxDp dp => some (.cpx, .mem (.dp dp))
  | .sbcDp dp => some (.sbc, .mem (.dp dp))
  | .sbcDpIndLong dp => some (.sbc, .mem (.dpIndLong dp))
  | .sbcImm v => some (.sbc, .imm v)
  | .cpxAbs addr => some (.cpx, .mem (.abs addr))
  | .sbcAbs addr => some (.sbc, .mem (.abs addr))
  | .sbcLong long => some (.sbc, .mem (.long long))
  | .sbcDpIndY dp => some (.sbc, .mem (.dpIndY dp))
  | .sbcDpInd dp => some (.sbc, .mem (.dpInd dp))
  | .sbcSrIndY sr => some (.sbc, .mem (.srIndY sr))
  | .sbcDpX dp => some (.sbc, .mem (.dpX dp))
  | .sbcDpIndLongY dp => some (.sbc, .mem (.dpIndLongY dp))
  | .sbcAbsY addr => some (.sbc, .mem (.absY addr))
  | .sbcAbsX addr => some (.sbc, .mem (.absX addr))
  | .sbcLongX long => some (.sbc, .mem (.longX long))
  | _ => none

/-- The storing instructions (41_load_store.md R203 to R206). -/
inductive StoreOp where
  | sta
  | stx
  | sty
  | stz
  deriving DecidableEq, Repr

/-- Every form of the storing instructions, with its addressing mode. -/
def storeForm : Instr → Option (StoreOp × MemMode)
  | .stzDp dp => some (.stz, .dp dp)
  | .stzDpX dp => some (.stz, .dpX dp)
  | .staDpXInd dp => some (.sta, .dpXInd dp)
  | .staSr sr => some (.sta, .sr sr)
  | .styDp dp => some (.sty, .dp dp)
  | .staDp dp => some (.sta, .dp dp)
  | .stxDp dp => some (.stx, .dp dp)
  | .staDpIndLong dp => some (.sta, .dpIndLong dp)
  | .styAbs addr => some (.sty, .abs addr)
  | .staAbs addr => some (.sta, .abs addr)
  | .stxAbs addr => some (.stx, .abs addr)
  | .staLong long => some (.sta, .long long)
  | .staDpIndY dp => some (.sta, .dpIndY dp)
  | .staDpInd dp => some (.sta, .dpInd dp)
  | .staSrIndY sr => some (.sta, .srIndY sr)
  | .styDpX dp => some (.sty, .dpX dp)
  | .staDpX dp => some (.sta, .dpX dp)
  | .stxDpY dp => some (.stx, .dpY dp)
  | .staDpIndLongY dp => some (.sta, .dpIndLongY dp)
  | .staAbsY addr => some (.sta, .absY addr)
  | .stzAbs addr => some (.stz, .abs addr)
  | .staAbsX addr => some (.sta, .absX addr)
  | .stzAbsX addr => some (.stz, .absX addr)
  | .staLongX long => some (.sta, .longX long)
  | _ => none

/-- The read-modify-write instructions (40_addressing.md R195). -/
inductive ModifyOp where
  | inc
  | dec
  | asl
  | lsr
  | rol
  | ror
  | tsb
  | trb
  deriving DecidableEq, Repr

/-- Every memory form of the read-modify-write instructions, with its addressing mode. -/
def modifyForm : Instr → Option (ModifyOp × MemMode)
  | .tsbDp dp => some (.tsb, .dp dp)
  | .aslDp dp => some (.asl, .dp dp)
  | .tsbAbs addr => some (.tsb, .abs addr)
  | .aslAbs addr => some (.asl, .abs addr)
  | .trbDp dp => some (.trb, .dp dp)
  | .aslDpX dp => some (.asl, .dpX dp)
  | .trbAbs addr => some (.trb, .abs addr)
  | .aslAbsX addr => some (.asl, .absX addr)
  | .rolDp dp => some (.rol, .dp dp)
  | .rolAbs addr => some (.rol, .abs addr)
  | .rolDpX dp => some (.rol, .dpX dp)
  | .rolAbsX addr => some (.rol, .absX addr)
  | .lsrDp dp => some (.lsr, .dp dp)
  | .lsrAbs addr => some (.lsr, .abs addr)
  | .lsrDpX dp => some (.lsr, .dpX dp)
  | .lsrAbsX addr => some (.lsr, .absX addr)
  | .rorDp dp => some (.ror, .dp dp)
  | .rorAbs addr => some (.ror, .abs addr)
  | .rorDpX dp => some (.ror, .dpX dp)
  | .rorAbsX addr => some (.ror, .absX addr)
  | .decDp dp => some (.dec, .dp dp)
  | .decAbs addr => some (.dec, .abs addr)
  | .decDpX dp => some (.dec, .dpX dp)
  | .decAbsX addr => some (.dec, .absX addr)
  | .incDp dp => some (.inc, .dp dp)
  | .incAbs addr => some (.inc, .abs addr)
  | .incDpX dp => some (.inc, .dpX dp)
  | .incAbsX addr => some (.inc, .absX addr)
  | _ => none

/-- The accumulator forms of the read-modify-write instructions (40_addressing.md R192). -/
def accForm : Instr → Option ModifyOp
  | .aslAcc => some .asl
  | .incAcc => some .inc
  | .rolAcc => some .rol
  | .decAcc => some .dec
  | .lsrAcc => some .lsr
  | .rorAcc => some .ror
  | _ => none

/-- The conditional branches: the bit of P tested, the value that takes the branch, and the displacement (45_control.md R281 to
R288). -/
def branchForm : Instr → Option (Nat × Bool × Byte)
  | .bpl rel => some (7, false, rel)
  | .bmi rel => some (7, true, rel)
  | .bvc rel => some (6, false, rel)
  | .bvs rel => some (6, true, rel)
  | .bcc rel => some (0, false, rel)
  | .bcs rel => some (0, true, rel)
  | .bne rel => some (1, false, rel)
  | .beq rel => some (1, true, rel)
  | _ => none

/-- The registers a mnemonic may write (10_state.md R44), by register. -/
def aWriters : List String :=
  ["LDA", "PLA", "TXA", "TYA", "TDC", "TSC", "XBA", "ADC", "SBC", "AND", "ORA", "EOR", "MVN", "MVP"]
def xWriters : List String := ["LDX", "PLX", "TAX", "TYX", "TSX", "INX", "DEX", "MVN", "MVP"]
def yWriters : List String := ["LDY", "PLY", "TAY", "TXY", "INY", "DEY", "MVN", "MVP"]
def pushMnemonics : List String := ["PHA", "PHX", "PHY", "PHP", "PHB", "PHD", "PHK", "PEA", "PEI", "PER"]
def pullMnemonics : List String := ["PLA", "PLX", "PLY", "PLP", "PLB", "PLD"]
def sWriters : List String :=
  ["TXS", "TCS", "JSR", "JSL", "RTS", "RTL", "RTI", "BRK", "COP"] ++ pushMnemonics ++ pullMnemonics
def dWriters : List String := ["TCD", "PLD"]
def dbWriters : List String := ["PLB", "MVN", "MVP"]
def pbWriters : List String := ["JML", "JSL", "RTL", "RTI", "BRK", "COP"]
def pcWriters : List String :=
  ["BPL", "BMI", "BVC", "BVS", "BCC", "BCS", "BNE", "BEQ", "BRA", "BRL", "JMP", "JML", "JSR", "JSL", "RTS", "RTL", "RTI",
   "BRK", "COP", "MVN", "MVP"]

/-- The instructions that write P as a whole byte (10_state.md R49). -/
def statusWriters : List String := ["PLP", "RTI", "REP", "SEP"]

/-- The instructions whose only flag writes are `SetNZ` or include it (10_state.md R48). -/
def nzWriters : List String :=
  ["LDA", "LDX", "LDY", "PLA", "PLX", "PLY", "PLB", "PLD", "TAX", "TAY", "TXA", "TYA", "TXY", "TYX", "TSX", "TSC", "TCD",
   "TDC", "XBA", "ADC", "SBC", "CMP", "CPX", "CPY", "AND", "ORA", "EOR", "ASL", "LSR", "ROL", "ROR", "INC", "INX", "INY",
   "DEC", "DEX", "DEY"]
def cWriters : List String :=
  ["ADC", "SBC", "CMP", "CPX", "CPY", "ASL", "LSR", "ROL", "ROR", "CLC", "SEC", "XCE"]

/-- The instruction stores to memory: a store, a memory form of a read-modify-write, a push, a call, a software interrupt or
a block move. -/
def storesToMemory (i : Instr) : Bool :=
  (storeForm i).isSome || (modifyForm i).isSome
    || (["JSR", "JSL", "BRK", "COP", "MVN", "MVP"] ++ pushMnemonics).contains i.mnemonic

/-- The instruction makes no bus access after its fetch. -/
def registersOnly (i : Instr) : Bool :=
  (accForm i).isSome || (branchForm i).isSome
    || ["TAX", "TAY", "TXA", "TYA", "TXY", "TYX", "TSX", "TXS", "TCS", "TSC", "TCD", "TDC", "XBA", "INX", "INY", "DEX", "DEY",
        "CLC", "CLD", "CLI", "CLV", "SEC", "SED", "SEI", "REP", "SEP", "XCE", "NOP", "WDM", "WAI", "STP", "BRA",
        "BRL"].contains i.mnemonic

end Sys2Proof.Claims

section
open Sys2Proof Sys2Proof.Machine Sys2Proof.Claims


/-! Encoding (30_encoding.md). -/

/-- 30_encoding.md R140, R144, R145: decoding the encoding of a well-formed instruction gives it back, whatever bytes follow. -/
def Obligations.DecodeEncode : Prop :=
  ∀ (i : Instr) (m x : Width) (rest : List Byte), i.wellFormed m x = true →
    decode m x (encode m x i ++ rest) = .ok (i, rest)

/-- 30_encoding.md R142, R147: what decoding accepts is well-formed, and its bytes are the encoding, so each byte string has
one meaning. -/
def Obligations.DecodeSound : Prop :=
  ∀ (m x : Width) (bs : List Byte) (i : Instr) (rest : List Byte), decode m x bs = .ok (i, rest) →
    i.wellFormed m x = true ∧ encode m x i ++ rest = bs

/-- 30_encoding.md R146: every opcode byte with its operand bytes is an instruction with that opcode, every instruction runs
to a next state in every state, and WDM does nothing. -/
def Obligations.EveryOpcodeRuns : Prop :=
  (∀ (m x : Width) (op b1 b2 b3 : Byte) (rest : List Byte),
    ∃ i r, decode m x (op :: b1 :: b2 :: b3 :: rest) = .ok (i, r) ∧ i.opcode = op ∧ ∀ s, ∃ t, exec i s = .next t) ∧
  ∀ (b : Byte) (s : State), exec (.wdm b) s = .next s

namespace Sys2Proof.Claims

/-- The length table of 30_encoding.md R141, with the opcodes of each class read from the map of R145. -/
def expectedLength (m x : Width) (op : Byte) : Nat :=
  if [0x09, 0x29, 0x49, 0x69, 0x89, 0xA9, 0xC9, 0xE9].contains op.toNat then (match m with | .b8 => 2 | .b16 => 3)
  else if [0xA0, 0xA2, 0xC0, 0xE0].contains op.toNat then (match x with | .b8 => 2 | .b16 => 3)
  else if [0x0F, 0x1F, 0x22, 0x2F, 0x3F, 0x4F, 0x5C, 0x5F, 0x6F, 0x7F, 0x8F, 0x9F, 0xAF, 0xBF, 0xCF, 0xDF, 0xEF,
      0xFF].contains op.toNat then 4
  else if [0x20, 0x44, 0x54, 0x62, 0x82, 0xF4].contains op.toNat then 3
  else match op.toNat % 16 with
    | 0x8 => 1
    | 0xA => 1
    | 0xB => 1
    | 0x9 => 3
    | 0xC => 3
    | 0xD => 3
    | 0xE => 3
    | 0x0 => if op.toNat = 0x40 ∨ op.toNat = 0x60 then 1 else 2
    | _ => 2

end Sys2Proof.Claims

/-- 30_encoding.md R141: an instruction's length is the length its opcode has under the widths in force, and in emulation mode
both widths are 8. -/
def Obligations.InstructionLengths : Prop :=
  (∀ (m x : Width) (op : Byte) (bs : List Byte) (i : Instr) (rest : List Byte), decode m x (op :: bs) = .ok (i, rest) →
    bs.length + 1 = rest.length + expectedLength m x op ∧ i.length m x = expectedLength m x op) ∧
  ∀ s : State, s.cpu.EmulationInv → s.cpu.e = true → s.cpu.m = .b8 ∧ s.cpu.xw = .b8

/-- 30_encoding.md R148, R142: the byte strings of the syntax table decode to the instructions they stand for. -/
def Obligations.SampleWords : Prop :=
  decode .b16 .b8 [0xA9, 0x34, 0x12] = .ok (.ldaImm 0x1234, []) ∧
  decode .b8 .b8 [0xA9, 0x34, 0x12] = .ok (.ldaImm 0x0034, [0x12]) ∧
  decode .b8 .b8 [0x18] = .ok (.clc, []) ∧
  decode .b8 .b8 [0x0A] = .ok (.aslAcc, []) ∧
  decode .b8 .b8 [0xA5, 0x12] = .ok (.ldaDp 0x12, []) ∧
  decode .b8 .b8 [0xB6, 0x12] = .ok (.ldxDpY 0x12, []) ∧
  decode .b8 .b8 [0xB2, 0x12] = .ok (.ldaDpInd 0x12, []) ∧
  decode .b8 .b8 [0xA1, 0x12] = .ok (.ldaDpXInd 0x12, []) ∧
  decode .b8 .b8 [0xB1, 0x12] = .ok (.ldaDpIndY 0x12, []) ∧
  decode .b8 .b8 [0xA7, 0x12] = .ok (.ldaDpIndLong 0x12, []) ∧
  decode .b8 .b8 [0xB7, 0x12] = .ok (.ldaDpIndLongY 0x12, []) ∧
  decode .b8 .b8 [0xAD, 0x34, 0x12] = .ok (.ldaAbs 0x1234, []) ∧
  decode .b8 .b8 [0xBD, 0x34, 0x12] = .ok (.ldaAbsX 0x1234, []) ∧
  decode .b8 .b8 [0xAF, 0x56, 0x34, 0x12] = .ok (.ldaLong 0x123456, []) ∧
  decode .b8 .b8 [0xBF, 0x56, 0x34, 0x12] = .ok (.ldaLongX 0x123456, []) ∧
  decode .b8 .b8 [0x6C, 0x34, 0x12] = .ok (.jmpAbsInd 0x1234, []) ∧
  decode .b8 .b8 [0xFC, 0x34, 0x12] = .ok (.jsrAbsXInd 0x1234, []) ∧
  decode .b8 .b8 [0xDC, 0x34, 0x12] = .ok (.jmlAbsIndLong 0x1234, []) ∧
  decode .b8 .b8 [0xA3, 0x03] = .ok (.ldaSr 0x03, []) ∧
  decode .b8 .b8 [0xB3, 0x03] = .ok (.ldaSrIndY 0x03, []) ∧
  decode .b8 .b8 [0x54, 0x7E, 0x00] = .ok (.mvn 0x7E 0x00, []) ∧
  decode .b8 .b8 [0xD0, 0xF8] = .ok (.bne 0xF8, []) ∧
  decode .b8 .b8 [0x82, 0xFD, 0xFF] = .ok (.brl 0xFFFD, []) ∧
  decode .b8 .b8 [0x02, 0x05] = .ok (.cop 0x05, []) ∧
  decode .b8 .b8 [0xF4, 0x34, 0x12] = .ok (.pea 0x1234, [])

/-! The step (60_exceptions.md R405, R447). -/

namespace Sys2Proof.Claims

/-- Nothing comes before the next fetch: no frame in progress, no reset request, running, no NMI pending, and no IRQ that P.I
lets in. -/
def Ready (s : State) : Prop :=
  s.frame = none ∧ s.resetRequest = false ∧ s.cpu.run = .running ∧ s.bus.nmiPending = false ∧
    (s.bus.plat.timeup = true → fI s = true)

/-- The opcodes whose last operand byte is fetched after a push: JSL and JSR (addr,X) (45_control.md R293, R294). -/
def fetchedLate (bs : List Byte) : Bool := bs.head? == some 0x22 || bs.head? == some 0xFC

/-- The bytes fetched before the operation runs. -/
def early (bs : List Byte) : List Byte := if fetchedLate bs then bs.dropLast else bs

/-- The state after bytes of stores are fetched: PC past them, the latch at the last of them (30_encoding.md R143, 20_memory.md
R97). -/
def fetched (s : State) (bs : List Byte) : State :=
  { s with
    cpu := { s.cpu with pc := s.cpu.pc + BitVec.ofNat 16 bs.length }
    bus := { s.bus with latch := bs.getLast?.getD s.bus.latch } }

/-- The bytes stand at PB:PC, PC wrapping within the bank. -/
def standsAtPc (s : State) (bs : List Byte) : Prop :=
  ∀ k, k < bs.length → s.bus.storeByte (mkAddr s.cpu.pb (s.cpu.pc + BitVec.ofNat 16 k)) = bs[k]?

end Sys2Proof.Claims

/-- 60_exceptions.md R405, 30_encoding.md R142, R143: where the bytes at PB:PC decode, the step is `exec` of the instruction
they decode to, with PC past the bytes fetched before its operation; and wherever the bytes come from (a device among them),
the step of an instruction whose bytes are all fetched first is `exec` after its fetches. -/
def Obligations.StepRunsDecodedInstruction : Prop :=
  (∀ (s : State) (bs : List Byte) (i : Instr), Ready s → standsAtPc s bs → decode s.cpu.m s.cpu.xw bs = .ok (i, []) →
    step s = exec i (fetched s (early bs))) ∧
  ∀ (s : State) (n : Nat) (i : Instr), Ready s →
    decode s.cpu.m s.cpu.xw (State.fetchBytes n s).bytes = .ok (i, []) → fetchedLate (State.fetchBytes n s).bytes = false →
    step s = exec i (State.fetchBytes n s).st

/-- 60_exceptions.md R405: reset, then stopped, then NMI, then IRQ unless P.I masks it, then waiting. -/
def Obligations.StepPriority : Prop :=
  ∀ s : State, s.frame = none →
    (s.resetRequest = true → step s = .next ({ s with resetRequest := false }).resetSequence) ∧
    (s.resetRequest = false → s.cpu.run = .stopped → step s = .next s) ∧
    (s.resetRequest = false → s.cpu.run ≠ .stopped → s.bus.nmiPending = true →
      step s = .next (State.interrupt .nmi
        { s with cpu := { s.cpu with run := .running }, bus := { s.bus with nmiPending := false } })) ∧
    (s.resetRequest = false → s.cpu.run ≠ .stopped → s.bus.nmiPending = false → s.bus.plat.timeup = true → fI s = false →
      step s = .next (State.interrupt .irq { s with cpu := { s.cpu with run := .running } })) ∧
    (s.resetRequest = false → s.cpu.run = .waiting → s.bus.nmiPending = false → s.bus.plat.timeup = false →
      step s = .next s) ∧
    (s.resetRequest = false → s.cpu.run = .waiting → s.bus.nmiPending = false → s.bus.plat.timeup = true → fI s = true →
      step s = step { s with cpu := { s.cpu with run := .running } })

namespace Sys2Proof.Claims

/-- The H timer fires before this step of the slice: it is the drawn step, and mode 01, or mode 11 on scanline `vtime`, is set
with `htime` at most 339 (60_exceptions.md R443). -/
def hTimerFires (b : Bus) (f : FrameState) : Bool :=
  decide (f.left = f.timerAt) && b.plat.nmitimen.getLsbD 4 &&
    (!b.plat.nmitimen.getLsbD 5 || decide (f.line = b.plat.vtime.toNat)) && decide (b.plat.htime.toNat ≤ 339)

/-- `timeup_flag <- 1`. -/
def timeUp (s : State) : State := { s with bus := { s.bus with plat := { s.bus.plat with timeup := true } } }

/-- The DMA/HDMA phase, then the PPU phase, then the APU phase of a scanline (60_exceptions.md R447). -/
def afterSlice (s : State) (y : Nat) : State := { s with bus := ((s.bus.dmaPhase y).ppuPhase y).apuPhase }

end Sys2Proof.Claims

/-- 60_exceptions.md R447, R443: inside a frame a step is one CPU step of the slice, the H timer before the drawn one; when the
slice is used up the other agents act in order and the next scanline begins, or the frame ends after the last. Three points are
the model's choice: that the H timer's match is taken at the drawn step, with NMITIMEN, HTIME and VTIME as they stand there (log
11); that the slice's length and that step are drawn at the scanline's start and held in State (log 9); that the frame is held in
State and taken step by step (log 10). -/
def Obligations.FrameScheduleStep : Prop :=
  ∀ (s : State) (f : FrameState), s.frame = some f →
    (∀ k, f.left = k + 1 → ∃ t, (if hTimerFires s.bus f then timeUp s else s).cpuStep = .next t ∧
      step s = .next { t with frame := some { f with left := k } }) ∧
    (f.left = 0 → f.line + 1 < s.bus.cfg.linesPerFrame → ∃ t g, step s = .next t ∧ t.frame = some g ∧ g.line = f.line + 1 ∧
      1 ≤ g.left ∧ 1 ≤ g.timerAt ∧ g.timerAt ≤ g.left ∧ t.cpu = s.cpu ∧
      (t.bus.plat = (afterSlice s f.line).bus.plat ∨ t.bus.plat = (timeUp (afterSlice s f.line)).bus.plat) ∧
      ∀ a, t.bus.storeByte a = (afterSlice s f.line).bus.storeByte a) ∧
    (f.left = 0 → s.bus.cfg.linesPerFrame ≤ f.line + 1 → step s = .next { afterSlice s f.line with frame := none })

/-- 60_exceptions.md R447: from any state inside a frame, finitely many steps end the frame. -/
def Obligations.FrameEnds : Prop :=
  ∀ (s : State) (f : FrameState), s.frame = some f → ∃ n t, Host.Core.run Sys2Proof.core n s = .next t ∧ t.frame = none

/-- 10_state.md R42, R43; 60_exceptions.md R411; 20_memory.md R81: every step keeps the register invariants and the canonical
form of the stores. -/
def Obligations.StepKeepsInvariant : Prop := ∀ s t : State, s.Inv → step s = .next t → t.Inv

/-- 10_state.md R55: the invariant holds at reset. -/
def Obligations.ResetMeetsInvariant : Prop := State.reset.Inv

/-- 20_memory.md R94, R96; 00_scope.md R9: a step answers a next state, and neither a parameter nor a byte of ROM changes. -/
def Obligations.StepKeepsParameters : Prop :=
  ∀ s : State, ∃ t, step s = .next t ∧ t.bus.cfg = s.bus.cfg ∧ t.bus.cart = s.bus.cart

/-- 60_exceptions.md R406, R436, R447: the PPU phase of scanline `VBLANK_LINE` sets VBlank and the NMI flag, latches an NMI and
copies the controllers when they are enabled; that of scanline 0 clears both flags; that of every other scanline changes
nothing; and the DMA before it touches none of these. -/
def Obligations.VBlankEvent : Prop :=
  ∀ (s : State) (f : FrameState), s.frame = some f → f.left = 0 → f.line ≠ 0 ∨ s.bus.cfg.vblankLine ≠ 0 →
    ∃ t, step s = .next t ∧
    (f.line = s.bus.cfg.vblankLine →
      t.bus.plat.vblank = true ∧ t.bus.plat.rdnmi = true ∧
      t.bus.nmiPending = (s.bus.nmiPending || s.bus.plat.nmitimen.getLsbD 7) ∧
      t.bus.plat.joy = (if s.bus.plat.nmitimen.getLsbD 0 then s.bus.pads.mask else s.bus.plat.joy)) ∧
    (f.line = 0 → t.bus.plat.vblank = false ∧ t.bus.plat.rdnmi = false ∧ t.bus.nmiPending = s.bus.nmiPending ∧
      t.bus.plat.joy = s.bus.plat.joy) ∧
    (f.line ≠ 0 → f.line ≠ s.bus.cfg.vblankLine → t.bus.plat.vblank = s.bus.plat.vblank ∧
      t.bus.plat.rdnmi = s.bus.plat.rdnmi ∧ t.bus.nmiPending = s.bus.nmiPending ∧ t.bus.plat.joy = s.bus.plat.joy)

/-- 60_exceptions.md R443, R407: at the start of a scanline the flag is raised in mode 10 on scanline `vtime` and otherwise left
alone, and the IRQ line is the flag. -/
def Obligations.TimerModes : Prop :=
  ∀ (s : State) (y : Nat),
    (s.startLine y).bus.plat = (if s.bus.plat.nmitimen.getLsbD 5 && !s.bus.plat.nmitimen.getLsbD 4 &&
        decide (y = s.bus.plat.vtime.toNat) then { s.bus.plat with timeup := true } else s.bus.plat) ∧
    s.bus.irqLine = s.bus.plat.timeup

/-! Interrupts, return and reset (60_exceptions.md R401 to R404; 47_status_system.md R342 to R344; 70_reset_and_hazards.md R500,
R501). -/

namespace Sys2Proof.Claims

/-- The vector table of 60_exceptions.md R401. -/
def vectorOffset (k : IntKind) (e : Bool) : Word :=
  match k with
  | .cop => if e then 0xFFF4 else 0xFFE4
  | .brk => if e then 0xFFFE else 0xFFE6
  | .nmi => if e then 0xFFFA else 0xFFEA
  | .irq => if e then 0xFFFE else 0xFFEE

/-- The bytes an entry pushes, the first of the list first (60_exceptions.md R402, R403). -/
def entryBytes (k : IntKind) (c : Cpu) : List Byte :=
  let p := if c.e && (k == .nmi || k == .irq) then c.p &&& 0xEF else c.p
  if c.e then [hiByte c.pc, loByte c.pc, p] else [c.pb, hiByte c.pc, loByte c.pc, p]

/-- What taking an interrupt leaves (60_exceptions.md R402, R404): the pushes, then I = 1, D = 0, PB = 0 and PC from the vector,
read after the pushes; nothing else of the processor, and nothing of the frame or the host's request. -/
structure EntryOf (k : IntKind) (s t : State) : Prop where
  cpu : t.cpu = { s.cpu with
    s := stackDown false s.cpu (entryBytes k s.cpu).length, p := (s.cpu.p &&& 0xF7) ||| 0x04, pb := 0, pc := t.cpu.pc }
  bus : (pushBytes false s (entryBytes k s.cpu)).bus.Reads t.bus
  pc : ∀ lo hi, word2 (pushBytes false s (entryBytes k s.cpu)).bus 0 (vectorOffset k s.cpu.e) lo hi →
    t.cpu.pc = mkWord hi lo ∧ t.bus = { (pushBytes false s (entryBytes k s.cpu)).bus with latch := hi }
  frame : t.frame = s.frame
  resetRequest : t.resetRequest = s.resetRequest

end Sys2Proof.Claims

/-- 60_exceptions.md R402, R403, R404: what every interrupt entry does, in both modes, with its pushed bytes and its vector. -/
def Obligations.InterruptEntry : Prop := ∀ (k : IntKind) (s : State), EntryOf k s (s.interrupt k)

/-- 60_exceptions.md R402, R403: where the stack lies in the WRAM of bank 0, the bytes pushed lie there, first at the highest
address, and every other byte of the stores is as before. -/
def Obligations.InterruptStack : Prop :=
  ∀ (k : IntKind) (s : State), s.bus.StoresWf →
    (∀ j, j < (entryBytes k s.cpu).length → (stackDown false s.cpu j).toNat ≤ 0x1FFF) →
    (∀ j, j < (entryBytes k s.cpu).length →
      (s.interrupt k).bus.storeByte (mkAddr 0 (stackDown false s.cpu j)) = (entryBytes k s.cpu)[j]?) ∧
    ∀ a, ¬ s.bus.among ((List.range (entryBytes k s.cpu).length).map fun j => mkAddr 0 (stackDown false s.cpu j)) a →
      (s.interrupt k).bus.storeByte a = s.bus.storeByte a

/-- 60_exceptions.md R401: the vectors, and that of reset, read as a little-endian word of bank 0. -/
def Obligations.VectorTable : Prop :=
  IntKind.vector .cop false = 0xFFE4 ∧ IntKind.vector .cop true = 0xFFF4 ∧
  IntKind.vector .brk false = 0xFFE6 ∧ IntKind.vector .brk true = 0xFFFE ∧
  IntKind.vector .nmi false = 0xFFEA ∧ IntKind.vector .nmi true = 0xFFFA ∧
  IntKind.vector .irq false = 0xFFEE ∧ IntKind.vector .irq true = 0xFFFE ∧
  (∀ (k : IntKind) (s : State) (lo hi : Byte), word2 (s.pushFrame k).bus 0 (k.vector s.cpu.e) lo hi →
    (s.interrupt k).cpu.pc = mkWord hi lo) ∧
  ∀ (s : State) (lo hi : Byte), word2 s.bus 0 0xFFFC lo hi → s.resetSequence.cpu.pc = mkWord hi lo

/-- 47_status_system.md R342, R343: BRK and COP take their interrupt, whatever the signature byte and whatever P.I is. -/
def Obligations.SoftwareInterrupts : Prop :=
  ∀ (sig : Byte) (s : State),
    (∃ t, exec (.brk sig) s = .next t ∧ EntryOf .brk s t) ∧ ∃ t, exec (.cop sig) s = .next t ∧ EntryOf .cop s t

/-- 47_status_system.md R344: RTI pulls P through `SetP`, then PC, then in native mode PB; nothing else changes but S and the
latch. -/
def Obligations.ReturnFromInterrupt : Prop :=
  ∀ (s : State) (p lo hi bk : Byte), pullByte false s 1 = some p → pullByte false s 2 = some lo → pullByte false s 3 = some hi →
    (s.cpu.e = true → exec .rti s = .next { latched s hi with
      cpu := { setStatus s.cpu p with s := stackUp false s.cpu 3, pc := mkWord hi lo } }) ∧
    (s.cpu.e = false → pullByte false s 4 = some bk → exec .rti s = .next { latched s bk with
      cpu := { setStatus s.cpu p with s := stackUp false s.cpu 4, pc := mkWord hi lo, pb := bk } })

/-- 60_exceptions.md R402, R410; 47_status_system.md R344: with the stack in the WRAM of bank 0, RTI right after an entry gives
back every register, but for PB in emulation mode, which is left 0; and only the pushed bytes of memory differ. -/
def Obligations.EntryThenReturn : Prop :=
  ∀ (k : IntKind) (s : State), s.Inv → (∀ j, j < 4 → (stackDown false s.cpu j).toNat ≤ 0x1FFF) →
    ∃ t, exec .rti (s.interrupt k) = .next t ∧ t.cpu = (if s.cpu.e then { s.cpu with pb := 0 } else s.cpu) ∧
      t.frame = s.frame ∧ t.resetRequest = s.resetRequest ∧
      ∀ a, ¬ s.bus.among ((List.range 4).map fun j => mkAddr 0 (stackDown false s.cpu j)) a →
        t.bus.storeByte a = s.bus.storeByte a

/-- 70_reset_and_hazards.md R500, R501; 60_exceptions.md R445; 10_state.md R55: what a reset leaves, from any state and in any run
state. What R501 calls unwritten is not stated. That no block move is in progress is the model's choice (log 29). -/
def Obligations.HostReset : Prop :=
  ∀ s : State, ∃ t, s.hostReset = .next t ∧
    t.cpu.e = true ∧ fM t = true ∧ fX t = true ∧ fD t = false ∧ fI t = true ∧
    hiByte t.cpu.x = 0 ∧ hiByte t.cpu.y = 0 ∧ hiByte t.cpu.s = 0x01 ∧
    t.cpu.d = 0 ∧ t.cpu.db = 0 ∧ t.cpu.pb = 0 ∧ t.cpu.run = .running ∧ t.cpu.moves = [] ∧
    t.bus.nmiPending = false ∧ t.resetRequest = false ∧ t.frame = none ∧
    t.bus.plat = { Platform.reset with rddiv := t.bus.plat.rddiv, rdmpy := t.bus.plat.rdmpy } ∧
    (∀ c, (t.bus.dma.get c).terminated = true ∧ (t.bus.dma.get c).doTransfer = false) ∧
    t.bus.sram = s.bus.sram ∧ t.bus.cart = s.bus.cart ∧ t.bus.cfg = s.bus.cfg ∧
    ∀ lo hi, word2 s.bus 0 0xFFFC lo hi → t.cpu.pc = mkWord hi lo ∧ t.bus.latch = hi

/-- 10_state.md R55, 60_exceptions.md R445: the values of the reset state that the spec gives. The values it leaves unwritten are
the model's choice (logs 1 to 4) and are not stated. -/
def Obligations.ResetState : Prop :=
  State.reset.cpu.e = true ∧ fM State.reset = true ∧ fX State.reset = true ∧ fD State.reset = false ∧
  fI State.reset = true ∧ hiByte State.reset.cpu.x = 0 ∧ hiByte State.reset.cpu.y = 0 ∧ hiByte State.reset.cpu.s = 0x01 ∧
  State.reset.cpu.d = 0 ∧ State.reset.cpu.db = 0 ∧ State.reset.cpu.pb = 0 ∧ State.reset.cpu.run = .running ∧
  State.reset.bus.nmiPending = false ∧ State.reset.resetRequest = false ∧
  State.reset.bus.plat.nmitimen = 0x00 ∧ State.reset.bus.plat.wrio = 0xFF ∧ State.reset.bus.plat.wrmpya = 0xFF ∧
  State.reset.bus.plat.wrdiv = 0xFFFF ∧ State.reset.bus.plat.htime = 0x1FF ∧ State.reset.bus.plat.vtime = 0x1FF ∧
  State.reset.bus.plat.hdmaen = 0x00 ∧ State.reset.bus.plat.memsel = 0x00 ∧ State.reset.bus.plat.rdnmi = false ∧
  State.reset.bus.plat.timeup = false ∧ State.reset.bus.plat.vblank = false ∧ State.reset.bus.plat.joy = ⟨0, 0, 0, 0⟩ ∧
  ∀ c, (State.reset.bus.dma.get c).terminated = true ∧ (State.reset.bus.dma.get c).doTransfer = false

/-! Frames: what an instruction leaves alone. -/

/-- 10_state.md R44, R45, R49, R50; 42_transfer.md, 45_control.md, 46_stack.md: a register changes only by the instructions listed
for it. Of X, Y and S the instructions that write P whole and XCE can clear the high byte only. The record of block moves in progress, the model's own (log 29), is a register here. -/
def Obligations.RegisterWriters : Prop :=
  ∀ (i : Instr) (s t : State), exec i s = .next t →
    (i.mnemonic ∉ aWriters → accForm i = none → t.cpu.a = s.cpu.a) ∧
    (i.mnemonic ∉ xWriters → loByte t.cpu.x = loByte s.cpu.x ∧
      (t.cpu.x = s.cpu.x ∨ (hiByte t.cpu.x = 0 ∧ fX t = true ∧ i.mnemonic ∈ "XCE" :: statusWriters))) ∧
    (i.mnemonic ∉ yWriters → loByte t.cpu.y = loByte s.cpu.y ∧
      (t.cpu.y = s.cpu.y ∨ (hiByte t.cpu.y = 0 ∧ fX t = true ∧ i.mnemonic ∈ "XCE" :: statusWriters))) ∧
    (i.mnemonic ∉ sWriters → loByte t.cpu.s = loByte s.cpu.s ∧
      (t.cpu.s = s.cpu.s ∨ (hiByte t.cpu.s = 0x01 ∧ t.cpu.e = true ∧ i.mnemonic = "XCE"))) ∧
    (i.mnemonic ∉ dWriters → t.cpu.d = s.cpu.d) ∧
    (i.mnemonic ∉ dbWriters → t.cpu.db = s.cpu.db) ∧
    (i.mnemonic ∉ pbWriters → t.cpu.pb = s.cpu.pb) ∧
    (i.mnemonic ∉ pcWriters → t.cpu.pc = s.cpu.pc) ∧
    (i.mnemonic ≠ "XCE" → t.cpu.e = s.cpu.e) ∧
    (i.mnemonic ≠ "WAI" → i.mnemonic ≠ "STP" → t.cpu.run = s.cpu.run) ∧
    (i.mnemonic ≠ "MVN" → i.mnemonic ≠ "MVP" → t.cpu.moves = s.cpu.moves) ∧
    t.frame = s.frame ∧ t.resetRequest = s.resetRequest

/-- 10_state.md R48: a flag changes only by the instructions listed for it; BIT with an immediate writes Z alone. -/
def Obligations.FlagWriters : Prop :=
  ∀ (i : Instr) (s t : State), exec i s = .next t → i.mnemonic ∉ statusWriters →
    (i.mnemonic ∉ nzWriters → i.mnemonic ≠ "BIT" → fN t = fN s) ∧
    (i.mnemonic ∉ ["ADC", "SBC", "BIT", "CLV"] → fV t = fV s) ∧
    (i.mnemonic ≠ "XCE" → fM t = fM s ∧ fX t = fX s) ∧
    (i.mnemonic ∉ ["CLD", "SED", "BRK", "COP"] → fD t = fD s) ∧
    (i.mnemonic ∉ ["CLI", "SEI", "BRK", "COP"] → fI t = fI s) ∧
    (i.mnemonic ∉ nzWriters → i.mnemonic ∉ ["BIT", "TSB", "TRB"] → fZ t = fZ s) ∧
    (i.mnemonic ∉ cWriters → fC t = fC s) ∧
    (∀ v, i = .bitImm v → fN t = fN s ∧ fV t = fV s)

/-- 40_addressing.md R193, R194; 20_memory.md R104: an instruction that works on registers alone leaves the bus as it was, and one
that stores nothing leaves every byte of the stores, the DMA and mailbox registers and the rest of the bus as they were, but for
what reads may change: the latch, WRAMADD, the two flags that a read acknowledges and the serial shift registers. -/
def Obligations.NonStoringKeepMemory : Prop :=
  ∀ (i : Instr) (s t : State), exec i s = .next t →
    (registersOnly i = true → t.bus = s.bus) ∧
    (storesToMemory i = false → s.bus.Reads t.bus ∧ ∀ a, t.bus.storeByte a = s.bus.storeByte a)

namespace Sys2Proof.Claims

/-- The addresses of an operand's bytes at its width. -/
def operandAddrs (s : State) (w : Width) (l : Loc) : List Addr :=
  match w with
  | .b8 => [s.addrOf l 0]
  | .b16 => [s.addrOf l 0, s.addrOf l 1]

/-- The addresses a store writes: those of the operand, but for a 16-bit store at WMDATA under the model's parameter `wideWmdata`
(20_memory.md R105; log 27). -/
def storeAddrs (s : State) (w : Width) (l : Loc) : List Addr :=
  if s.bus.cfg.wideWmdata = true ∧ w = .b16 ∧ busTarget s.bus.cfg s.bus.cart (s.addrOf l 0) = .wramPort 0 then
    [s.addrOf l 0, s.addrOf l 0]
  else operandAddrs s w l

/-- The value and the width a storing instruction stores (41_load_store.md R203 to R206). -/
def stored (op : StoreOp) (s : State) : Word :=
  match op with
  | .sta => low (mWidth s) s.cpu.a
  | .stx => low (xWidth s) s.cpu.x
  | .sty => low (xWidth s) s.cpu.y
  | .stz => 0

def storeWidth (op : StoreOp) (s : State) : Width :=
  match op with
  | .sta => mWidth s
  | .stz => mWidth s
  | .stx => xWidth s
  | .sty => xWidth s

/-- A 16-bit value stored, low byte first; an 8-bit one as its byte. -/
def storeBytes (b : Bus) (as : List Addr) (v : Word) : Bus :=
  match as with
  | [a] => b.write a (loByte v)
  | [a, a'] => (b.write a (loByte v)).write a' (hiByte v)
  | _ => b

end Sys2Proof.Claims

/-- 41_load_store.md R203 to R206, 40_addressing.md R194: a store writes the bytes of its register at the addresses its mode gives,
low byte first, and changes no register. Where the spec contradicts itself, on a 16-bit store at WMDATA (20_memory.md R105), both
readings are covered by a parameter that is the model's choice (log 27). -/
def Obligations.StoresWriteTheirBytes : Prop :=
  ∀ (i : Instr) (op : StoreOp) (mode : MemMode) (s : State), storeForm i = some (op, mode) →
    let e := s.ea mode
    exec i s = .next { s with bus := storeBytes e.st.bus (storeAddrs e.st (storeWidth op s) e.loc) (stored op s) }

/-- 41_load_store.md R203 to R206; 20_memory.md R84, R85, R94, R96: where the addresses a store gives select WRAM, SRAM, ROM or a
register other than WMDATA and the two DMA triggers, every byte of the stores outside them is as before, and a byte of WRAM or
SRAM there holds what was stored. -/
def Obligations.StoreFrame : Prop :=
  ∀ (i : Instr) (op : StoreOp) (mode : MemMode) (s t : State), storeForm i = some (op, mode) → exec i s = .next t →
    let e := s.ea mode
    let as := storeAddrs e.st (storeWidth op s) e.loc
    (∀ x ∈ as, (busTarget s.bus.cfg s.bus.cart x).plain = true) →
    (∀ a, ¬ s.bus.among as a → t.bus.storeByte a = s.bus.storeByte a) ∧
    (s.bus.StoresWf → ∀ a, as.getLast? = some a → (busTarget s.bus.cfg s.bus.cart a).isRam = true →
      t.bus.storeByte a = some (if as.length = 1 then loByte (stored op s) else hiByte (stored op s))) ∧
    (s.bus.StoresWf → ∀ a a', as = [a, a'] → busTarget s.bus.cfg s.bus.cart a ≠ busTarget s.bus.cfg s.bus.cart a' →
      (busTarget s.bus.cfg s.bus.cart a).isRam = true → t.bus.storeByte a = some (loByte (stored op s)))

/-- 40_addressing.md R195: the frame of a read-modify-write on memory: where its addresses select WRAM, SRAM, ROM or a register
other than WMDATA and the two DMA triggers, every byte of the stores outside them is as before. -/
def Obligations.ModifyFrame : Prop :=
  ∀ (i : Instr) (op : ModifyOp) (mode : MemMode) (s t : State), modifyForm i = some (op, mode) → exec i s = .next t →
    let e := s.ea mode
    let as := operandAddrs e.st (mWidth s) e.loc
    (∀ x ∈ as, (busTarget s.bus.cfg s.bus.cart x).plain = true) →
    ∀ a, ¬ s.bus.among as a → t.bus.storeByte a = s.bus.storeByte a

namespace Sys2Proof.Claims

/-- How many bytes a pushing instruction pushes, and whether it is a `NoWrapOp` (46_stack.md; 45_control.md R293, R294). -/
def pushCount (i : Instr) (s : State) : Nat × Bool :=
  match i with
  | .pha => (if fM s then 1 else 2, false)
  | .phx => (if fX s then 1 else 2, false)
  | .phy => (if fX s then 1 else 2, false)
  | .php => (1, false)
  | .phb => (1, false)
  | .phk => (1, false)
  | .phd => (2, newNoWrap s)
  | .pea _ => (2, newNoWrap s)
  | .pei _ => (2, newNoWrap s)
  | .per _ => (2, newNoWrap s)
  | .jsrAbs _ => (2, false)
  | .jsrAbsXInd _ => (2, newNoWrap s)
  | .jsl _ => (3, newNoWrap s)
  | _ => (0, false)

/-- The stack addresses a pushing instruction writes. -/
def pushAddrs (i : Instr) (s : State) : List Addr :=
  (List.range (pushCount i s).1).map fun j => mkAddr 0 (stackDown (pushCount i s).2 s.cpu j)

end Sys2Proof.Claims

/-- 40_addressing.md R196; 46_stack.md; 45_control.md R293, R294: the frame of pushes and calls: where the stack addresses they
write select WRAM, SRAM, ROM or a register other than WMDATA and the two DMA triggers, every byte of the stores outside them is
as before. -/
def Obligations.PushFrame : Prop :=
  ∀ (i : Instr) (s t : State), (i.mnemonic ∈ pushMnemonics ∨ i.mnemonic = "JSR" ∨ i.mnemonic = "JSL") → exec i s = .next t →
    (∀ x ∈ pushAddrs i s, (busTarget s.bus.cfg s.bus.cart x).plain = true) →
    ∀ a, ¬ s.bus.among (pushAddrs i s) a → t.bus.storeByte a = s.bus.storeByte a

/-! Results, family by family. -/

/-- 41_load_store.md R200 to R202: a load writes its register at its width and N and Z, and no other register. -/
def Obligations.LoadsWriteTheirRegister : Prop :=
  ∀ (i : Instr) (mode : Mode) (s : State),
    (readForm i = some (.lda, mode) →
      let r := s.operand (mWidth s) mode
      exec i s = .next { r.st with cpu := { s.cpu with
        a := written (mWidth s) s.cpu.a r.v, p := nz s.cpu.p (mWidth s) r.v } }) ∧
    (readForm i = some (.ldx, mode) →
      let r := s.operand (xWidth s) mode
      exec i s = .next { r.st with cpu := { s.cpu with
        x := written (xWidth s) s.cpu.x r.v, p := nz s.cpu.p (xWidth s) r.v } }) ∧
    (readForm i = some (.ldy, mode) →
      let r := s.operand (xWidth s) mode
      exec i s = .next { r.st with cpu := { s.cpu with
        y := written (xWidth s) s.cpu.y r.v, p := nz s.cpu.p (xWidth s) r.v } })

/-- 40_addressing.md R172, R194; 20_memory.md R101: an immediate operand is the instruction's value at its width and makes no bus
access; a memory operand whose bytes lie in stores is their little-endian value, and reading it changes the bus as reads do. -/
def Obligations.OperandValues : Prop :=
  ∀ (s : State) (w : Width),
    (∀ v, s.operand w (.imm v) = { v := low w v, st := s }) ∧
    ∀ (mode : MemMode) (lo hi : Byte),
      let e := s.ea mode
      s.bus.storeByte (e.st.addrOf e.loc 0) = some lo →
      (w = .b16 → s.bus.storeByte (e.st.addrOf e.loc 1) = some hi) →
      (s.operand w (.mem mode)).v = (match w with | .b8 => zext lo | .b16 => mkWord hi lo) ∧
      (s.operand w (.mem mode)).st = latched e.st (match w with | .b8 => lo | .b16 => hi) ∧
      s.bus.Reads e.st.bus ∧ e.st.cpu = s.cpu ∧ e.st.frame = s.frame ∧ e.st.resetRequest = s.resetRequest

namespace Sys2Proof.Claims

/-- The byte `i` of a direct operand (40_addressing.md R171): bank 0, at D + offset, or inside page DH in emulation mode with DL =
0. -/
def directAddr (s : State) (off : Word) : Addr :=
  mkAddr 0 (if s.cpu.e ∧ loByte s.cpu.d = 0 ∧ s.bus.cfg.emuDpPageWrap then mkWord (hiByte s.cpu.d) (loByte off)
    else s.cpu.d + off)

/-- The addresses a mode without a pointer gives its operand's bytes (40_addressing.md R170, R173, R174, R180 to R183, R187). -/
def plainAddr (s : State) (i : Nat) : MemMode → Option Addr
  | .dp dp => some (directAddr s (zext dp + BitVec.ofNat 16 i))
  | .dpX dp => some (directAddr s (zext dp + s.cpu.x + BitVec.ofNat 16 i))
  | .dpY dp => some (directAddr s (zext dp + s.cpu.y + BitVec.ofNat 16 i))
  | .abs addr => some (mkAddr s.cpu.db addr + BitVec.ofNat 24 i)
  | .absX addr => some (mkAddr s.cpu.db addr + s.cpu.x.setWidth 24 + BitVec.ofNat 24 i)
  | .absY addr => some (mkAddr s.cpu.db addr + s.cpu.y.setWidth 24 + BitVec.ofNat 24 i)
  | .long long => some (long + BitVec.ofNat 24 i)
  | .longX long => some (long + s.cpu.x.setWidth 24 + BitVec.ofNat 24 i)
  | .sr sr => some (mkAddr 0 (s.cpu.s + zext sr + BitVec.ofNat 16 i))
  | _ => none

/-- The addresses of the bytes of a mode's pointer (40_addressing.md R175 to R179, R188). -/
def pointerAddrs (s : State) : MemMode → List Addr
  | .dpInd dp => [directAddr s (zext dp), directAddr s (zext dp + 1)]
  | .dpXInd dp => [directAddr s (zext dp + s.cpu.x), directAddr s (zext dp + s.cpu.x + 1)]
  | .dpIndY dp => [directAddr s (zext dp), directAddr s (zext dp + 1)]
  | .dpIndLong dp => [mkAddr 0 (s.cpu.d + zext dp), mkAddr 0 (s.cpu.d + zext dp + 1), mkAddr 0 (s.cpu.d + zext dp + 2)]
  | .dpIndLongY dp => [mkAddr 0 (s.cpu.d + zext dp), mkAddr 0 (s.cpu.d + zext dp + 1), mkAddr 0 (s.cpu.d + zext dp + 2)]
  | .srIndY sr => [mkAddr 0 (s.cpu.s + zext sr), mkAddr 0 (s.cpu.s + zext sr + 1)]
  | _ => []

/-- The address a mode with a pointer gives its operand, from the pointer's bytes (40_addressing.md R175 to R179, R188). -/
def pointedAddr (s : State) (ptr : List Byte) : MemMode → Option Addr
  | .dpInd _ => some (mkAddr s.cpu.db (mkWord (ptr.getD 1 0) (ptr.getD 0 0)))
  | .dpXInd _ => some (mkAddr s.cpu.db (mkWord (ptr.getD 1 0) (ptr.getD 0 0)))
  | .dpIndY _ => some (mkAddr s.cpu.db (mkWord (ptr.getD 1 0) (ptr.getD 0 0)) + s.cpu.y.setWidth 24)
  | .dpIndLong _ => some (mkAddr (ptr.getD 2 0) (mkWord (ptr.getD 1 0) (ptr.getD 0 0)))
  | .dpIndLongY _ => some (mkAddr (ptr.getD 2 0) (mkWord (ptr.getD 1 0) (ptr.getD 0 0)) + s.cpu.y.setWidth 24)
  | .srIndY _ => some (mkAddr s.cpu.db (mkWord (ptr.getD 1 0) (ptr.getD 0 0)) + s.cpu.y.setWidth 24)
  | _ => none

end Sys2Proof.Claims

/-- 40_addressing.md R173 to R183, R187, R188: the address of every byte of an operand in every addressing mode; a pointer is read
from the stores its addresses select. -/
def Obligations.EffectiveAddresses : Prop :=
  ∀ (s : State) (mode : MemMode) (i : Nat),
    (∀ a, plainAddr s i mode = some a → (s.ea mode).st = s ∧ s.addrOf (s.ea mode).loc i = a) ∧
    (∀ (ptr : List Byte) (a : Addr), (pointerAddrs s mode).map s.bus.storeByte = ptr.map some →
      pointedAddr s ptr mode = some a → (s.ea mode).st.addrOf (s.ea mode).loc i = a + BitVec.ofNat 24 i) ∧
    ((plainAddr s i mode).isSome ↔ pointerAddrs s mode = [])

/-- 40_addressing.md R171: the direct-page offsets, as numbers. -/
def Obligations.DirectPageOffsets : Prop :=
  ∀ (cfg : Config) (c : Cpu) (off : Word),
    (dpOffset cfg c off).toNat =
      (if c.e = true ∧ c.d.toNat % 0x100 = 0 ∧ cfg.emuDpPageWrap = true then c.d.toNat / 0x100 * 0x100 + off.toNat % 0x100
       else (c.d.toNat + off.toNat) % 0x10000) ∧
    (dpnOffset c off).toNat = (c.d.toNat + off.toNat) % 0x10000 ∧
    ∀ i, bankOf ((Loc.dir off).addr cfg c i) = 0 ∧ bankOf ((Loc.dirN off).addr cfg c i) = 0

/-- 42_transfer.md R220 to R232, 43_arithmetic.md R249, R250, R252, R253: the transfers, at the destination's width, with N and Z from
what was moved; TXS and TCS write no flag and keep SH in emulation mode; INX, INY, DEX and DEY step their register at its width and
set N and Z; nothing else changes. -/
def Obligations.TransfersAndIndexSteps : Prop :=
  ∀ s : State,
    exec .tax s = .next { s with cpu := { s.cpu with
      x := written (xWidth s) s.cpu.x s.cpu.a, p := nz s.cpu.p (xWidth s) s.cpu.a } } ∧
    exec .tay s = .next { s with cpu := { s.cpu with
      y := written (xWidth s) s.cpu.y s.cpu.a, p := nz s.cpu.p (xWidth s) s.cpu.a } } ∧
    exec .txa s = .next { s with cpu := { s.cpu with
      a := written (mWidth s) s.cpu.a s.cpu.x, p := nz s.cpu.p (mWidth s) s.cpu.x } } ∧
    exec .tya s = .next { s with cpu := { s.cpu with
      a := written (mWidth s) s.cpu.a s.cpu.y, p := nz s.cpu.p (mWidth s) s.cpu.y } } ∧
    exec .txy s = .next { s with cpu := { s.cpu with
      y := written (xWidth s) s.cpu.y s.cpu.x, p := nz s.cpu.p (xWidth s) s.cpu.x } } ∧
    exec .tyx s = .next { s with cpu := { s.cpu with
      x := written (xWidth s) s.cpu.x s.cpu.y, p := nz s.cpu.p (xWidth s) s.cpu.y } } ∧
    exec .tsx s = .next { s with cpu := { s.cpu with
      x := written (xWidth s) s.cpu.x s.cpu.s, p := nz s.cpu.p (xWidth s) s.cpu.s } } ∧
    exec .txs s = .next { s with cpu := { s.cpu with
      s := if s.cpu.e then mkWord (hiByte s.cpu.s) (loByte s.cpu.x) else s.cpu.x } } ∧
    exec .tcs s = .next { s with cpu := { s.cpu with
      s := if s.cpu.e then mkWord (hiByte s.cpu.s) (loByte s.cpu.a) else s.cpu.a } } ∧
    exec .tsc s = .next { s with cpu := { s.cpu with a := s.cpu.s, p := nz s.cpu.p .b16 s.cpu.s } } ∧
    exec .tcd s = .next { s with cpu := { s.cpu with d := s.cpu.a, p := nz s.cpu.p .b16 s.cpu.a } } ∧
    exec .tdc s = .next { s with cpu := { s.cpu with a := s.cpu.d, p := nz s.cpu.p .b16 s.cpu.d } } ∧
    exec .xba s = .next { s with cpu := { s.cpu with
      a := mkWord (loByte s.cpu.a) (hiByte s.cpu.a), p := nz s.cpu.p .b8 (zext (hiByte s.cpu.a)) } } ∧
    exec .inx s = .next { s with cpu := { s.cpu with
      x := written (xWidth s) s.cpu.x (s.cpu.x + 1), p := nz s.cpu.p (xWidth s) (s.cpu.x + 1) } } ∧
    exec .iny s = .next { s with cpu := { s.cpu with
      y := written (xWidth s) s.cpu.y (s.cpu.y + 1), p := nz s.cpu.p (xWidth s) (s.cpu.y + 1) } } ∧
    exec .dex s = .next { s with cpu := { s.cpu with
      x := written (xWidth s) s.cpu.x (s.cpu.x - 1), p := nz s.cpu.p (xWidth s) (s.cpu.x - 1) } } ∧
    exec .dey s = .next { s with cpu := { s.cpu with
      y := written (xWidth s) s.cpu.y (s.cpu.y - 1), p := nz s.cpu.p (xWidth s) (s.cpu.y - 1) } }

/-- 43_arithmetic.md R242, R243: ADC and SBC write the accumulator, C, V, N and Z from the add core on the accumulator, the operand
(complemented for SBC), C and D, and no other register. What the add core computes is stated in BinaryArithmetic and
DecimalArithmetic. -/
def Obligations.AddAndSubtract : Prop :=
  ∀ (i : Instr) (mode : Mode) (s : State),
    let w := mWidth s
    let r := s.operand w mode
    (readForm i = some (.adc, mode) →
      let t := addCore (low w s.cpu.a) r.v (fC s) w (fD s) false
      exec i s = .next { r.st with cpu := { s.cpu with
        a := written w s.cpu.a t.r, p := nz (putV (putC s.cpu.p t.c) t.v) w t.r } }) ∧
    (readForm i = some (.sbc, mode) →
      let t := addCore (low w s.cpu.a) (low w (~~~r.v)) (fC s) w (fD s) true
      exec i s = .next { r.st with cpu := { s.cpu with
        a := written w s.cpu.a t.r, p := nz (putV (putC s.cpu.p t.c) t.v) w t.r } })

namespace Sys2Proof.Claims

/-- The signed reading of a w-bit value (43_arithmetic.md R240). -/
def signed (w : Width) (v : Word) : Int := if top w v then (v.toNat : Int) - 2 ^ w.bits else (v.toNat : Int)

/-- A sum lies outside the signed w-bit values. -/
def overflows (w : Width) (r : Int) : Bool := decide (r < -2 ^ (w.bits - 1)) || decide (2 ^ (w.bits - 1) ≤ r)

/-- Digit `k` of a value. -/
def digit (v : Word) (k : Nat) : Nat := v.toNat / 16 ^ k % 16

/-- A w-bit value whose digits are all decimal. -/
def validBcd (w : Width) (v : Word) : Prop := low w v = v ∧ ∀ k, k < 4 → digit v k ≤ 9

/-- The number a decimal value spells. -/
def bcd (v : Word) : Nat := digit v 3 * 1000 + digit v 2 * 100 + digit v 1 * 10 + digit v 0

/-- The decimal values of a width: 100 or 10000. -/
def bcdRange (w : Width) : Nat :=
  match w with
  | .b8 => 100
  | .b16 => 10000

end Sys2Proof.Claims

/-- 43_arithmetic.md R240, R241, R243: in binary mode ADC computes a + b + C and SBC a - b - (1 - C) modulo 2^w, C is the unsigned
carry or not-borrow, and V is signed overflow. -/
def Obligations.BinaryArithmetic : Prop :=
  ∀ (w : Width) (a b : Word) (c : Bool), low w a = a → low w b = b →
    let add := addCore a b c w false false
    let sub := addCore a (low w (~~~b)) c w false true
    add.r.toNat = (a.toNat + b.toNat + c.toNat) % 2 ^ w.bits ∧
    add.c = decide (2 ^ w.bits ≤ a.toNat + b.toNat + c.toNat) ∧
    add.v = overflows w (signed w a + signed w b + c.toNat) ∧
    (sub.r.toNat : Int) = ((a.toNat : Int) - b.toNat - (1 - c.toNat)) % 2 ^ w.bits ∧
    sub.c = decide (b.toNat + (1 - c.toNat) ≤ a.toNat) ∧
    sub.v = overflows w (signed w a - signed w b - (1 - c.toNat))

/-- 43_arithmetic.md R241: in decimal mode, on decimal digits, ADC and SBC give the decimal sum and difference modulo 100 or 10000
in decimal digits, and C is the decimal carry or not-borrow. -/
def Obligations.DecimalArithmetic : Prop :=
  ∀ (w : Width) (a b : Word) (c : Bool), validBcd w a → validBcd w b →
    let add := addCore a b c w true false
    let sub := addCore a (low w (~~~b)) c w true true
    validBcd w add.r ∧ bcd add.r = (bcd a + bcd b + c.toNat) % bcdRange w ∧
    add.c = decide (bcdRange w ≤ bcd a + bcd b + c.toNat) ∧
    validBcd w sub.r ∧ (bcd sub.r : Int) = ((bcd a : Int) - bcd b - (1 - c.toNat)) % bcdRange w ∧
    sub.c = decide (bcd b + (1 - c.toNat) ≤ bcd a)

/-- 43_arithmetic.md R244 to R247: a compare sets C when the register is at least the operand (unsigned), Z when they are equal and
N to the top bit of the difference, and changes no other register or flag. -/
def Obligations.Compares : Prop :=
  ∀ (i : Instr) (mode : Mode) (s : State) (op : ReadOp) (w : Width) (reg : Word),
    readForm i = some (op, mode) →
    ((op = .cmp ∧ w = mWidth s ∧ reg = low w s.cpu.a) ∨ (op = .cpx ∧ w = xWidth s ∧ reg = low w s.cpu.x) ∨
      (op = .cpy ∧ w = xWidth s ∧ reg = low w s.cpu.y)) →
    let r := s.operand w mode
    exec i s = .next { r.st with cpu := { s.cpu with
      p := putZ (putN (putC s.cpu.p (decide (r.v.toNat ≤ reg.toNat))) (top w (reg - r.v))) (decide (reg = r.v)) } }

namespace Sys2Proof.Claims

/-- The result of a logic instruction (44_logic_shift.md R260 to R262). -/
def logicResult (op : ReadOp) (a v : Word) : Option Word :=
  match op with
  | .and => some (a &&& v)
  | .ora => some (a ||| v)
  | .eor => some (a ^^^ v)
  | _ => none

end Sys2Proof.Claims

/-- 44_logic_shift.md R260 to R263: AND, ORA and EOR write the accumulator, N and Z; BIT writes Z from the and, and in its memory
forms N and V from the operand's top two bits. -/
def Obligations.LogicAndBitTest : Prop :=
  ∀ (i : Instr) (mode : Mode) (s : State),
    let w := mWidth s
    let r := s.operand w mode
    (∀ op v, readForm i = some (op, mode) → logicResult op (low w s.cpu.a) r.v = some v →
      exec i s = .next { r.st with cpu := { s.cpu with a := written w s.cpu.a v, p := nz s.cpu.p w v } }) ∧
    (∀ mm, mode = .mem mm → readForm i = some (.bit, mode) →
      exec i s = .next { r.st with cpu := { s.cpu with
        p := putV (putN (putZ s.cpu.p (low w s.cpu.a &&& r.v == 0)) (top w r.v)) (second w r.v) } }) ∧
    (∀ v, mode = .imm v → readForm i = some (.bit, mode) →
      exec i s = .next { s with cpu := { s.cpu with p := putZ s.cpu.p (low w s.cpu.a &&& low w v == 0) } })

namespace Sys2Proof.Claims

/-- The new value of a read-modify-write, as a number of w bits (43_arithmetic.md R248, R251; 44_logic_shift.md R264 to R269). -/
def newValue (op : ModifyOp) (w : Width) (a : Word) (c : Bool) (v : Word) : Nat :=
  match op with
  | .inc => (v.toNat + 1) % 2 ^ w.bits
  | .dec => (v.toNat + 2 ^ w.bits - 1) % 2 ^ w.bits
  | .asl => 2 * v.toNat % 2 ^ w.bits
  | .lsr => v.toNat / 2
  | .rol => (2 * v.toNat + c.toNat) % 2 ^ w.bits
  | .ror => v.toNat / 2 + c.toNat * 2 ^ (w.bits - 1)
  | .tsb => (v ||| a).toNat
  | .trb => (v &&& ~~~a).toNat

/-- P after a read-modify-write of `v` that gave `r`. -/
def newStatus (op : ModifyOp) (w : Width) (a : Word) (p : Byte) (v r : Word) : Byte :=
  match op with
  | .inc => nz p w r
  | .dec => nz p w r
  | .asl => nz (putC p (top w v)) w r
  | .lsr => nz (putC p (v.getLsbD 0)) w r
  | .rol => nz (putC p (top w v)) w r
  | .ror => nz (putC p (v.getLsbD 0)) w r
  | .tsb => putZ p (a &&& v == 0)
  | .trb => putZ p (a &&& v == 0)

/-- The write of a read-modify-write: high byte first. -/
def writeBack (b : Bus) (as : List Addr) (v : Word) : Bus :=
  match as with
  | [a] => b.write a (loByte v)
  | [a, a'] => (b.write a' (hiByte v)).write a (loByte v)
  | _ => b

end Sys2Proof.Claims

/-- 43_arithmetic.md R248, R251; 44_logic_shift.md R264 to R269; 40_addressing.md R192, R195: every read-modify-write, on memory
(read, then written back high byte first) and on the accumulator, gives the value and the flags of its rule, and changes nothing
else. -/
def Obligations.ReadModifyWrite : Prop :=
  ∀ (i : Instr) (op : ModifyOp) (s : State),
    let w := mWidth s
    let a := low w s.cpu.a
    (∀ mode, modifyForm i = some (op, mode) →
      let e := s.ea mode
      let r := e.st.load w e.loc
      let v := BitVec.ofNat 16 (newValue op w a (fC s) r.v)
      exec i s = .next { r.st with
        cpu := { s.cpu with p := newStatus op w a s.cpu.p r.v v }
        bus := writeBack r.st.bus (operandAddrs r.st w e.loc) v }) ∧
    (accForm i = some op →
      let v := BitVec.ofNat 16 (newValue op w a (fC s) a)
      exec i s = .next { s with cpu := { s.cpu with a := written w s.cpu.a v, p := newStatus op w a s.cpu.p a v } })

namespace Sys2Proof.Claims

/-- `n` times an instruction. -/
def repeated (i : Instr) : Nat → State → Out
  | 0, s => .next s
  | n + 1, s =>
    match exec i s with
    | .next t => repeated i n t
    | .fault r => .fault r
    | .refused r => .refused r

end Sys2Proof.Claims

/-- 44_logic_shift.md R268, R269: m + 1 times ROL A, or ROR A, gives back A and C; ROR A undoes ROL A. -/
def Obligations.RotatesAreCyclic : Prop :=
  ∀ s : State,
    (∃ t, repeated .rolAcc ((mWidth s).bits + 1) s = .next t ∧ t.cpu.a = s.cpu.a ∧ fC t = fC s) ∧
    (∃ t, repeated .rorAcc ((mWidth s).bits + 1) s = .next t ∧ t.cpu.a = s.cpu.a ∧ fC t = fC s) ∧
    ∃ t u, exec .rolAcc s = .next t ∧ exec .rorAcc t = .next u ∧ u.cpu.a = s.cpu.a ∧ fC u = fC s

/-- 45_control.md R280 to R290: a branch adds its displacement to PC when its flag has the value it tests, BRA and BRL always; PC
wraps in the bank, a branch of -2 targets itself, and nothing else changes. -/
def Obligations.Branches : Prop :=
  (∀ (i : Instr) (k : Nat) (want : Bool) (rel : Byte) (s : State), branchForm i = some (k, want, rel) →
    exec i s = .next { s with cpu := { s.cpu with
      pc := if s.cpu.p.getLsbD k = want then s.cpu.pc + sext rel else s.cpu.pc } }) ∧
  (∀ (rel : Byte) (s : State), exec (.bra rel) s = .next { s with cpu := { s.cpu with pc := s.cpu.pc + sext rel } }) ∧
  (∀ (rel : Word) (s : State), exec (.brl rel) s = .next { s with cpu := { s.cpu with pc := s.cpu.pc + rel } }) ∧
  ∀ pc : Word, pc + 2 + sext 0xFE = pc

/-- 45_control.md R291, R292; 40_addressing.md R184 to R186: JMP sets PC and keeps PB, JML sets both; an indirect target is read from
bank 0, or for (addr,X) from the program bank; nothing else changes but the latch. -/
def Obligations.Jumps : Prop :=
  ∀ (s : State) (addr : Word) (long : Addr) (lo hi bk : Byte),
    exec (.jmpAbs addr) s = .next { s with cpu := { s.cpu with pc := addr } } ∧
    (word2 s.bus 0 addr lo hi →
      exec (.jmpAbsInd addr) s = .next { latched s hi with cpu := { s.cpu with pc := mkWord hi lo } }) ∧
    (word2 s.bus s.cpu.pb (addr + s.cpu.x) lo hi →
      exec (.jmpAbsXInd addr) s = .next { latched s hi with cpu := { s.cpu with pc := mkWord hi lo } }) ∧
    exec (.jmlLong long) s = .next { s with cpu := { s.cpu with pb := bankOf long, pc := offOf long } } ∧
    (word2 s.bus 0 addr lo hi → s.bus.storeByte (mkAddr 0 (addr + 2)) = some bk →
      exec (.jmlAbsIndLong addr) s = .next { latched s bk with cpu := { s.cpu with pb := bk, pc := mkWord hi lo } })

/-- 45_control.md R293, R294: a call pushes the address of its last byte (JSL pushes PB first) and goes to its target; JSL and JSR
(addr,X) fetch their last operand byte after the push, and the pointer of (addr,X) is read from the program bank. -/
def Obligations.Calls : Prop :=
  ∀ s : State,
    (∀ addr, exec (.jsrAbs addr) s =
      .next (let t := pushWord false s (s.cpu.pc - 1); { t with cpu := { t.cpu with pc := addr } })) ∧
    (∀ (addr : Word) (b lo hi : Byte),
      let t := pushWord (newNoWrap s) s s.cpu.pc
      t.bus.storeByte (mkAddr s.cpu.pb s.cpu.pc) = some b →
      word2 t.bus s.cpu.pb (mkWord b (loByte addr) + s.cpu.x) lo hi →
      exec (.jsrAbsXInd addr) s =
        .next (page1 (newNoWrap s) { latched t hi with cpu := { t.cpu with pc := mkWord hi lo } })) ∧
    ∀ (long : Addr) (bk : Byte),
      let t := pushBytes (newNoWrap s) s [s.cpu.pb]
      t.bus.storeByte (mkAddr s.cpu.pb s.cpu.pc) = some bk →
      exec (.jsl long) s = .next (page1 (newNoWrap s) (let u := pushWord (newNoWrap s) (latched t bk) s.cpu.pc
        { u with cpu := { u.cpu with pb := bk, pc := offOf long } }))

/-- 45_control.md R295, R296: RTS pulls PC and adds one, RTL pulls PC and PB and adds one to PC only; nothing else changes but S and
the latch. -/
def Obligations.Returns : Prop :=
  ∀ (s : State) (lo hi bk : Byte),
    (pullByte false s 1 = some lo → pullByte false s 2 = some hi →
      exec .rts s = .next { latched s hi with cpu := { s.cpu with s := stackUp false s.cpu 2, pc := mkWord hi lo + 1 } }) ∧
    (pullByte (newNoWrap s) s 1 = some lo → pullByte (newNoWrap s) s 2 = some hi → pullByte (newNoWrap s) s 3 = some bk →
      exec .rtl s = .next (page1 (newNoWrap s) { latched s bk with cpu := { s.cpu with
        s := stackUp (newNoWrap s) s.cpu 3, pb := bk, pc := mkWord hi lo + 1 } }))

/-- 45_control.md R293 to R297: with the stack in the WRAM of bank 0, RTS after JSR and RTL after JSL give back every register, with PC
after the call; JSL, whose last operand byte is still to be fetched, ends one byte further. -/
def Obligations.CallThenReturn : Prop :=
  ∀ s : State, s.bus.StoresWf → (∀ j, j < 3 → (stackDown false s.cpu j).toNat ≤ 0x1FFF) →
    (∀ addr, ∃ t u, exec (.jsrAbs addr) s = .next t ∧ t.cpu.pc = addr ∧ exec .rts t = .next u ∧ u.cpu = s.cpu) ∧
    ∀ (long : Addr) (bk : Byte), newNoWrap s = false → s.bus.storeByte (mkAddr s.cpu.pb s.cpu.pc) = some bk →
      busTarget s.bus.cfg s.bus.cart (mkAddr s.cpu.pb s.cpu.pc) ≠ busTarget s.bus.cfg s.bus.cart (mkAddr 0 s.cpu.s) →
      ∃ t u, exec (.jsl long) s = .next t ∧ t.cpu.pb = bk ∧ t.cpu.pc = offOf long ∧ exec .rtl t = .next u ∧
        u.cpu = { s.cpu with pc := s.cpu.pc + 1 }

/-- 46_stack.md R311 to R317, R324 to R326: a push writes its bytes at S downwards, high byte first, and changes S alone; PEI reads its
word from the direct page without the page wrap. -/
def Obligations.Pushes : Prop :=
  ∀ s : State,
    exec .pha s = .next (if fM s then pushBytes false s [loByte s.cpu.a] else pushWord false s s.cpu.a) ∧
    exec .phx s = .next (if fX s then pushBytes false s [loByte s.cpu.x] else pushWord false s s.cpu.x) ∧
    exec .phy s = .next (if fX s then pushBytes false s [loByte s.cpu.y] else pushWord false s s.cpu.y) ∧
    exec .php s = .next (pushBytes false s [s.cpu.p]) ∧
    exec .phb s = .next (pushBytes false s [s.cpu.db]) ∧
    exec .phk s = .next (pushBytes false s [s.cpu.pb]) ∧
    exec .phd s = .next (page1 (newNoWrap s) (pushWord (newNoWrap s) s s.cpu.d)) ∧
    (∀ addr, exec (.pea addr) s = .next (page1 (newNoWrap s) (pushWord (newNoWrap s) s addr))) ∧
    (∀ rel, exec (.per rel) s = .next (page1 (newNoWrap s) (pushWord (newNoWrap s) s (s.cpu.pc + rel)))) ∧
    ∀ dp lo hi, word2 s.bus 0 (s.cpu.d + zext dp) lo hi →
      exec (.pei dp) s = .next (page1 (newNoWrap s) (pushWord (newNoWrap s) (latched s hi) (mkWord hi lo)))

namespace Sys2Proof.Claims

/-- The bytes the next pulls read at a width: the low byte, and above 8 bits the high byte. -/
def pulledWord (nw : Bool) (s : State) (w : Width) (lo hi : Byte) : Prop :=
  pullByte nw s 1 = some lo ∧ (w = .b16 → pullByte nw s 2 = some hi)

/-- How many bytes a width has. -/
def byteCount (w : Width) : Nat :=
  match w with
  | .b8 => 1
  | .b16 => 2

/-- The last byte a pull reads at a width. -/
def lastPulled (w : Width) (lo hi : Byte) : Byte :=
  match w with
  | .b8 => lo
  | .b16 => hi

end Sys2Proof.Claims

/-- 46_stack.md R318 to R323: a pull reads upwards from S + 1, low byte first, into its register at its width; PLA, PLX, PLY, PLB and PLD
set N and Z, PLP writes P through `SetP`; nothing else changes but S and the latch. -/
def Obligations.Pulls : Prop :=
  ∀ (s : State) (lo hi : Byte),
    (pulledWord false s (mWidth s) lo hi → exec .pla s = .next { latched s (lastPulled (mWidth s) lo hi) with
      cpu := { s.cpu with s := stackUp false s.cpu (byteCount (mWidth s)),
                          a := written (mWidth s) s.cpu.a (mkWord hi lo), p := nz s.cpu.p (mWidth s) (mkWord hi lo) } }) ∧
    (pulledWord false s (xWidth s) lo hi → exec .plx s = .next { latched s (lastPulled (xWidth s) lo hi) with
      cpu := { s.cpu with s := stackUp false s.cpu (byteCount (xWidth s)),
                          x := written (xWidth s) s.cpu.x (mkWord hi lo), p := nz s.cpu.p (xWidth s) (mkWord hi lo) } }) ∧
    (pulledWord false s (xWidth s) lo hi → exec .ply s = .next { latched s (lastPulled (xWidth s) lo hi) with
      cpu := { s.cpu with s := stackUp false s.cpu (byteCount (xWidth s)),
                          y := written (xWidth s) s.cpu.y (mkWord hi lo), p := nz s.cpu.p (xWidth s) (mkWord hi lo) } }) ∧
    (pullByte false s 1 = some lo → exec .plp s = .next { latched s lo with
      cpu := { setStatus s.cpu lo with s := stackUp false s.cpu 1 } }) ∧
    (pullByte false s 1 = some lo → exec .plb s = .next { latched s lo with
      cpu := { s.cpu with s := stackUp false s.cpu 1, db := lo, p := nz s.cpu.p .b8 (zext lo) } }) ∧
    (pulledWord (newNoWrap s) s .b16 lo hi → exec .pld s = .next (page1 (newNoWrap s) { latched s hi with
      cpu := { s.cpu with s := stackUp (newNoWrap s) s.cpu 2, d := mkWord hi lo, p := nz s.cpu.p .b16 (mkWord hi lo) } }))

/-- 47_status_system.md R330 to R341, R345, R346, 10_state.md R49: the flag instructions write their flag alone; REP and SEP write P through `SetP`,
which keeps M = X = 1 in emulation mode and clears XH and YH when X = 1; XCE exchanges C and E and, entering emulation mode,
forces M = X = 1, XH = YH = 0 and SH = 0x01; NOP and WDM change nothing, WAI and STP the run state alone. -/
def Obligations.StatusAndWaitInstructions : Prop :=
  ∀ (s : State) (imm : Byte),
    exec .clc s = .next { s with cpu := { s.cpu with p := s.cpu.p &&& 0xFE } } ∧
    exec .cld s = .next { s with cpu := { s.cpu with p := s.cpu.p &&& 0xF7 } } ∧
    exec .cli s = .next { s with cpu := { s.cpu with p := s.cpu.p &&& 0xFB } } ∧
    exec .clv s = .next { s with cpu := { s.cpu with p := s.cpu.p &&& 0xBF } } ∧
    exec .sec s = .next { s with cpu := { s.cpu with p := s.cpu.p ||| 0x01 } } ∧
    exec .sed s = .next { s with cpu := { s.cpu with p := s.cpu.p ||| 0x08 } } ∧
    exec .sei s = .next { s with cpu := { s.cpu with p := s.cpu.p ||| 0x04 } } ∧
    exec (.rep imm) s = .next { s with cpu := setStatus s.cpu (s.cpu.p &&& ~~~imm) } ∧
    exec (.sep imm) s = .next { s with cpu := setStatus s.cpu (s.cpu.p ||| imm) } ∧
    (fC s = false → exec .xce s = .next { s with cpu := { s.cpu with e := false, p := putC s.cpu.p s.cpu.e } }) ∧
    (fC s = true → exec .xce s = .next { s with cpu := { s.cpu with
      e := true, p := putC s.cpu.p s.cpu.e ||| 0x30, x := zext (loByte s.cpu.x), y := zext (loByte s.cpu.y),
      s := mkWord 0x01 (loByte s.cpu.s) } }) ∧
    exec .nop s = .next s ∧ exec (.wdm imm) s = .next s ∧
    exec .wai s = .next { s with cpu := { s.cpu with run := .waiting } } ∧
    exec .stp s = .next { s with cpu := { s.cpu with run := .stopped } }

namespace Sys2Proof.Claims

/-- The bank that a block move in progress at this opcode last fetched; none where the step begins one (log 29). -/
def resumed (s : State) : Option Byte :=
  (s.cpu.moves.find? fun r => r.opcode == mkAddr s.cpu.pb (s.cpu.pc - 3)).map (·.bank)

/-- The destination bank of a step of a block move: the operand, but DB where the move is in progress and DB was changed, under
`moveKeepsDb` (log 29). -/
def destination (s : State) (dbk : Byte) : Byte :=
  match s.bus.cfg.moveKeepsDb, resumed s with
  | true, some k => if k = s.cpu.db then dbk else s.cpu.db
  | _, _ => dbk

/-- The bank that stays recorded for the move: the operand, or the bank that a changed DB replaced (log 29). -/
def recorded (s : State) (dbk : Byte) : Byte :=
  match resumed s with
  | some k => if k = s.cpu.db then dbk else k
  | none => dbk

/-- The record of the moves in progress after a step: the others as they were, and this one while bytes remain (log 29). -/
def recordAfter (s : State) (dbk : Byte) : List MoveRecord :=
  let here := mkAddr s.cpu.pb (s.cpu.pc - 3)
  let others := s.cpu.moves.filter fun r => r.opcode != here
  if s.bus.cfg.moveKeepsDb = false then s.cpu.moves
  else if s.cpu.a = 0 then others
  else { opcode := here, bank := recorded s dbk } :: others

end Sys2Proof.Claims

/-- 48_block_move.md R350 to R352, 70_reset_and_hazards.md R505: one step of a block move: DB is the destination bank, one byte goes
from the source bank at X to the destination bank at Y, X and Y step at the width x, A counts down, and PC goes back to the move until
A was 0; no flag changes. Where the destination is WRAM or SRAM it then holds the byte, and no other byte of the stores changes. The
destination bank is the operand whatever DB was, as R350 and R351 have it, but under the parameter that is the model's choice (log 29)
a DB changed inside a move in progress is the bank of the rest of it, as R505 has it: so where DB alone
was changed after a step that left bytes, the next step has that bank for its destination. -/
def Obligations.BlockMoves : Prop :=
  ∀ (s : State) (dbk sbk v : Byte), s.bus.storeByte (mkAddr sbk s.cpu.x) = some v →
    let back : Word := if s.cpu.a = 0 then s.cpu.pc else s.cpu.pc - 3
    let bank := destination s dbk
    let bus := (latched s v).bus.write (mkAddr bank s.cpu.y) v
    exec (.mvn dbk sbk) s = .next { s with bus := bus, cpu := { s.cpu with
      a := s.cpu.a - 1, x := written (xWidth s) s.cpu.x (s.cpu.x + 1), y := written (xWidth s) s.cpu.y (s.cpu.y + 1),
      db := bank, pc := back, moves := recordAfter s dbk } } ∧
    exec (.mvp dbk sbk) s = .next { s with bus := bus, cpu := { s.cpu with
      a := s.cpu.a - 1, x := written (xWidth s) s.cpu.x (s.cpu.x - 1), y := written (xWidth s) s.cpu.y (s.cpu.y - 1),
      db := bank, pc := back, moves := recordAfter s dbk } } ∧
    (s.bus.StoresWf → (busTarget s.bus.cfg s.bus.cart (mkAddr bank s.cpu.y)).isRam = true →
      bus.storeByte (mkAddr bank s.cpu.y) = some v) ∧
    ((busTarget s.bus.cfg s.bus.cart (mkAddr bank s.cpu.y)).plain = true →
      ∀ a, ¬ s.bus.among [mkAddr bank s.cpu.y] a → bus.storeByte a = s.bus.storeByte a) ∧
    ∀ (t : State) (db : Byte), exec (.mvn dbk sbk) s = .next t ∨ exec (.mvp dbk sbk) s = .next t →
      s.bus.cfg.moveKeepsDb = true → s.cpu.a ≠ 0 → db ≠ recorded s dbk →
        destination { t with cpu := { t.cpu with db := db, pc := t.cpu.pc + 3 } } dbk = db

/-! The bus and the devices on it (20_memory.md, 60_exceptions.md). -/

namespace Sys2Proof.Claims

/-- The system banks (20_memory.md R82). -/
def isSystemBank (b : Byte) : Prop := b.toNat ≤ 0x3F ∨ (0x80 ≤ b.toNat ∧ b.toNat ≤ 0xBF)

/-- The bus with a byte of WRAM written and the latch at it. -/
def wramWritten (b : Bus) (k : Nat) (v : Byte) : Bus := { b with wram := Memory.write b.wram k v, latch := v }

end Sys2Proof.Claims

/-- 20_memory.md R84, R85: offsets 0x0000-0x1FFF of the system banks are the first 8 KiB of WRAM, banks 0x7E and 0x7F all of it; a read
returns the byte and a write stores it, with no other effect but the latch. -/
def Obligations.WramMap : Prop :=
  ∀ (b : Bus) (bank : Byte) (off : Word) (v : Byte),
    (isSystemBank bank → off.toNat ≤ 0x1FFF →
      b.read (mkAddr bank off) = { v := Memory.read b.wram off.toNat,
                                   bus := { b with latch := Memory.read b.wram off.toNat } } ∧
      b.write (mkAddr bank off) v = wramWritten b off.toNat v ∧
      b.read (mkAddr bank off) = b.read (mkAddr 0x7E off) ∧ b.write (mkAddr bank off) v = b.write (mkAddr 0x7E off) v) ∧
    b.read (mkAddr 0x7E off) = { v := Memory.read b.wram off.toNat, bus := { b with latch := Memory.read b.wram off.toNat } } ∧
    b.write (mkAddr 0x7E off) v = wramWritten b off.toNat v ∧
    b.read (mkAddr 0x7F off) = { v := Memory.read b.wram (0x10000 + off.toNat),
                                 bus := { b with latch := Memory.read b.wram (0x10000 + off.toNat) } } ∧
    b.write (mkAddr 0x7F off) v = wramWritten b (0x10000 + off.toNat) v

namespace Sys2Proof.Claims

/-- The address is neither WRAM nor in a register window, so the cartridge answers it (20_memory.md R82). -/
def isCartridge (bank : Byte) (off : Word) : Prop :=
  bank ≠ 0x7E ∧ bank ≠ 0x7F ∧
    (isSystemBank bank → 0x2000 ≤ off.toNat ∧
      ∀ w ∈ [(0x2100, 0x213F), (0x2140, 0x217F), (0x2180, 0x2183), (0x4016, 0x4017), (0x4200, 0x421F), (0x4300, 0x437F)],
        ¬(w.1 ≤ off.toNat ∧ off.toNat ≤ w.2))

/-- The ROM byte of a cartridge address (20_memory.md R92, R93). -/
def romIndex (b : Bus) (bank off : Nat) : Option Nat :=
  match b.cart.mapper with
  | .loROM => if 0x8000 ≤ off then some ((bank % 0x80 * 0x8000 + (off - 0x8000)) % b.cart.romSize) else none
  | .hiROM =>
    if (0x40 ≤ bank ∧ bank ≤ 0x7D) ∨ (b.cfg.hiromFullBanks = true ∧ 0xC0 ≤ bank) ∨ b.cfg.hiromLowWindowStart.toNat ≤ off then
      some ((bank % 0x40 * 0x10000 + off) % b.cart.romSize)
    else none

/-- The SRAM byte of a cartridge address that selects no ROM (20_memory.md R92, R93). -/
def sramIndex (b : Bus) (bank off : Nat) : Option Nat :=
  match b.cart.mapper with
  | .loROM =>
    if 0x70 ≤ bank ∧ bank ≤ 0x7D ∧ 0 < b.cart.sramSize then some (((bank - 0x70) * 0x8000 + off) % b.cart.sramSize) else none
  | .hiROM =>
    if 0x20 ≤ bank ∧ bank ≤ 0x3F ∧ 0x6000 ≤ off ∧ off ≤ 0x7FFF ∧ 0 < b.cart.sramSize then
      some (((bank - 0x20) * 0x2000 + (off - 0x6000)) % b.cart.sramSize)
    else none

end Sys2Proof.Claims

/-- 20_memory.md R92 to R97: what a cartridge address reads and what a write to it does, under both mappers: ROM keeps its byte, SRAM
stores, and an address that selects neither is open bus. -/
def Obligations.CartridgeMap : Prop :=
  ∀ (b : Bus) (bank : Byte) (off : Word) (v : Byte), isCartridge bank off →
    (∀ k, romIndex b bank.toNat off.toNat = some k →
      b.read (mkAddr bank off) = { v := Memory.read b.cart.rom k, bus := { b with latch := Memory.read b.cart.rom k } } ∧
      b.write (mkAddr bank off) v = { b with latch := v }) ∧
    (romIndex b bank.toNat off.toNat = none → ∀ k, sramIndex b bank.toNat off.toNat = some k →
      b.read (mkAddr bank off) = { v := Memory.read b.sram k, bus := { b with latch := Memory.read b.sram k } } ∧
      b.write (mkAddr bank off) v = { b with sram := Memory.write b.sram k v, latch := v }) ∧
    (romIndex b bank.toNat off.toNat = none → sramIndex b bank.toNat off.toNat = none →
      b.read (mkAddr bank off) = { v := b.latch, bus := b } ∧ b.write (mkAddr bank off) v = { b with latch := v })

namespace Sys2Proof.Claims

/-- The address of DMA register `r` of channel `c` (60_exceptions.md R437). -/
def dmaAddr (bank : Byte) (c : BitVec 3) (r : BitVec 4) : Addr :=
  mkAddr bank (BitVec.ofNat 16 (0x4300 + 16 * c.toNat + r.toNat))

/-- The number of a DMA register's byte: 0xF is the mirror of 0xB (60_exceptions.md R437). -/
def dmaByteNumber (r : BitVec 4) : BitVec 4 := if r = 0xF then 0xB else r

end Sys2Proof.Claims

/-- 20_memory.md R87; 60_exceptions.md R417, R418, R420, R422, R423, R426, R428, R432, R433, R436, R437: the mailbox keeps its two
directions apart; the plain registers store what is written and nothing else changes but the latch; HVBJOY reads VBlank in bit 7, 0
in bit 0 and the latch in bits 5:1 (bit 6 is a free value, log 8), and changes the latch and the count of free values alone; JOYnL
and JOYnH read the bytes of the joypad registers; a DMA register reads back the byte written and every other one keeps its own; the
three unused offsets of a channel are open bus; write-only registers read as the latch and read-only ones ignore writes. -/
def Obligations.DeviceRegisters : Prop :=
  ∀ (b : Bus) (bank v : Byte), isSystemBank bank →
    (∀ k p : Nat, k < 16 → p < 4 →
      let a := mkAddr bank (BitVec.ofNat 16 (0x2140 + 4 * k + p))
      b.write a v = { b with latch := v, toApu := b.toApu.set (BitVec.ofNat 2 p) v } ∧
      b.read a = { v := b.fromApu.get (BitVec.ofNat 2 p), bus := { b with latch := b.fromApu.get (BitVec.ofNat 2 p) } }) ∧
    b.write (mkAddr bank 0x4201) v = { b with latch := v, plat := { b.plat with wrio := v } } ∧
    (b.read (mkAddr bank 0x4213)).v = b.plat.wrio ∧
    b.write (mkAddr bank 0x4202) v = { b with latch := v, plat := { b.plat with wrmpya := v } } ∧
    b.write (mkAddr bank 0x4204) v = { b with latch := v, plat := { b.plat with wrdiv := mkWord (hiByte b.plat.wrdiv) v } } ∧
    b.write (mkAddr bank 0x4205) v = { b with latch := v, plat := { b.plat with wrdiv := mkWord v (loByte b.plat.wrdiv) } } ∧
    b.write (mkAddr bank 0x4207) v = { b with
      latch := v
      plat := { b.plat with htime := BitVec.ofNat 9 (b.plat.htime.toNat / 0x100 * 0x100 + v.toNat) } } ∧
    b.write (mkAddr bank 0x4208) v = { b with
      latch := v
      plat := { b.plat with htime := BitVec.ofNat 9 (v.toNat % 2 * 0x100 + b.plat.htime.toNat % 0x100) } } ∧
    b.write (mkAddr bank 0x4209) v = { b with
      latch := v
      plat := { b.plat with vtime := BitVec.ofNat 9 (b.plat.vtime.toNat / 0x100 * 0x100 + v.toNat) } } ∧
    b.write (mkAddr bank 0x420A) v = { b with
      latch := v
      plat := { b.plat with vtime := BitVec.ofNat 9 (v.toNat % 2 * 0x100 + b.plat.vtime.toNat % 0x100) } } ∧
    b.write (mkAddr bank 0x420D) v = { b with latch := v, plat := { b.plat with memsel := v } } ∧
    (let h := b.read (mkAddr bank 0x4212)
     h.v.getLsbD 7 = b.plat.vblank ∧ h.v.getLsbD 0 = false ∧ (∀ k, 1 ≤ k → k ≤ 5 → h.v.getLsbD k = b.latch.getLsbD k) ∧
     h.bus = { b with latch := h.v, draws := h.bus.draws }) ∧
    (∀ p : Nat, p < 4 →
      let lo := loByte (b.plat.joy.get (BitVec.ofNat 2 p))
      let hi := hiByte (b.plat.joy.get (BitVec.ofNat 2 p))
      b.read (mkAddr bank (BitVec.ofNat 16 (0x4218 + 2 * p))) = { v := lo, bus := { b with latch := lo } } ∧
      b.read (mkAddr bank (BitVec.ofNat 16 (0x4219 + 2 * p))) = { v := hi, bus := { b with latch := hi } }) ∧
    (∀ off : Word, 0x4200 ≤ off.toNat → off.toNat ≤ 0x420F → b.read (mkAddr bank off) = { v := b.latch, bus := b }) ∧
    (∀ off : Word, 0x420E ≤ off.toNat → off.toNat ≤ 0x421F → b.write (mkAddr bank off) v = { b with latch := v }) ∧
    ∀ (c : BitVec 3) (r : BitVec 4),
      (0xC ≤ r.toNat → r.toNat ≤ 0xE →
        b.write (dmaAddr bank c r) v = { b with latch := v } ∧ b.read (dmaAddr bank c r) = { v := b.latch, bus := b }) ∧
      (r.toNat ≤ 0xB ∨ r = 0xF →
        (b.write (dmaAddr bank c r) v).peek (dmaAddr bank c r) = v ∧
        (∀ (c' : BitVec 3) (r' : BitVec 4), r'.toNat ≤ 0xB ∨ r' = 0xF → c' ≠ c ∨ dmaByteNumber r' ≠ dmaByteNumber r →
          (b.write (dmaAddr bank c r) v).peek (dmaAddr bank c' r') = b.peek (dmaAddr bank c' r')) ∧
        b.write (dmaAddr bank c r) v = { b with latch := v, dma := (b.write (dmaAddr bank c r) v).dma })

/-- 20_memory.md R95, R96, R97: after every read the latch holds the byte returned, after every write but one of MDMAEN or HDMAEN the
byte written; an unmapped address reads as the latch; a write to ROM or to an unmapped address changes nothing but the latch. -/
def Obligations.OpenBusLatch : Prop :=
  ∀ (b : Bus) (a : Addr) (v : Byte),
    (b.read a).bus.latch = (b.read a).v ∧
    (busTarget b.cfg b.cart a ≠ .platform 0x0B → busTarget b.cfg b.cart a ≠ .platform 0x0C → (b.write a v).latch = v) ∧
    (busTarget b.cfg b.cart a = .unmapped → b.read a = { v := b.latch, bus := b }) ∧
    ((busTarget b.cfg b.cart a = .unmapped ∨ ∃ k, busTarget b.cfg b.cart a = .rom k) → b.write a v = { b with latch := v })

/-- 20_memory.md R88, R105: WMDATA reads and writes WRAM at the pointer and moves the pointer on, modulo 0x20000; the three address
registers set its bits and read as open bus. -/
def Obligations.WramPort : Prop :=
  ∀ (b : Bus) (bank v : Byte), isSystemBank bank →
    b.read (mkAddr bank 0x2180) = { v := Memory.read b.wram b.wramPtr.toNat, bus := { b with
      wramPtr := BitVec.ofNat 17 (b.wramPtr.toNat + 1), latch := Memory.read b.wram b.wramPtr.toNat } } ∧
    b.write (mkAddr bank 0x2180) v = { wramWritten b b.wramPtr.toNat v with
      wramPtr := BitVec.ofNat 17 (b.wramPtr.toNat + 1) } ∧
    b.read (mkAddr bank 0x2181) = { v := b.latch, bus := b } ∧
    b.read (mkAddr bank 0x2182) = { v := b.latch, bus := b } ∧
    b.read (mkAddr bank 0x2183) = { v := b.latch, bus := b } ∧
    b.write (mkAddr bank 0x2181) v = { b with
      latch := v
      wramPtr := BitVec.ofNat 17 (b.wramPtr.toNat / 0x100 * 0x100 + v.toNat) } ∧
    b.write (mkAddr bank 0x2182) v = { b with
      latch := v
      wramPtr := BitVec.ofNat 17 (b.wramPtr.toNat / 0x10000 * 0x10000 + v.toNat * 0x100 + b.wramPtr.toNat % 0x100) } ∧
    b.write (mkAddr bank 0x2183) v = { b with
      latch := v
      wramPtr := BitVec.ofNat 17 (v.toNat % 2 * 0x10000 + b.wramPtr.toNat % 0x10000) }

/-- 60_exceptions.md R419, R421; 70_reset_and_hazards.md R509: WRMPYB multiplies and WRDIVB divides at once, unsigned, division by zero
giving 0xFFFF and the dividend; nothing else changes but the latch, and the very next read gives the result. -/
def Obligations.MultiplyAndDivide : Prop :=
  ∀ (b : Bus) (bank v : Byte), isSystemBank bank →
    (∃ p, (b.write (mkAddr bank 0x4203) v) = { b with latch := v, plat := { b.plat with rdmpy := p, rddiv := zext v } } ∧
      p.toNat = b.plat.wrmpya.toNat * v.toNat) ∧
    (v = 0 → b.write (mkAddr bank 0x4206) v =
      { b with latch := v, plat := { b.plat with rddiv := 0xFFFF, rdmpy := b.plat.wrdiv } }) ∧
    (v ≠ 0 → ∃ q r, (b.write (mkAddr bank 0x4206) v) =
        { b with latch := v, plat := { b.plat with rddiv := q, rdmpy := r } } ∧
      q.toNat = b.plat.wrdiv.toNat / v.toNat ∧ r.toNat = b.plat.wrdiv.toNat % v.toNat) ∧
    (b.read (mkAddr bank 0x4214)).v = loByte b.plat.rddiv ∧ (b.read (mkAddr bank 0x4215)).v = hiByte b.plat.rddiv ∧
    (b.read (mkAddr bank 0x4216)).v = loByte b.plat.rdmpy ∧ (b.read (mkAddr bank 0x4217)).v = hiByte b.plat.rdmpy

/-- 60_exceptions.md R406, R407, R416, R430, R431: RDNMI and TIMEUP return their flag over the latch and clear it, and RDNMI leaves a
pending NMI alone; a write of NMITIMEN with bits 5:4 = 00 clears the timer flag, and enabling NMI during VBlank raises one only
under `NMI_ON_LATE_ENABLE`. -/
def Obligations.InterruptFlags : Prop :=
  ∀ (b : Bus) (bank v : Byte), isSystemBank bank →
    (let x : Byte := (if b.plat.rdnmi then 0x80 else 0x00) ||| (b.latch &&& 0x70) ||| b.cfg.cpuVersion.setWidth 8
     b.read (mkAddr bank 0x4210) = { v := x, bus := { b with latch := x, plat := { b.plat with rdnmi := false } } }) ∧
    (let x : Byte := (if b.plat.timeup then 0x80 else 0x00) ||| (b.latch &&& 0x7F)
     b.read (mkAddr bank 0x4211) = { v := x, bus := { b with latch := x, plat := { b.plat with timeup := false } } }) ∧
    b.write (mkAddr bank 0x4200) v = { b with
      latch := v
      plat := { b.plat with nmitimen := v, timeup := if v &&& 0x30 = 0 then false else b.plat.timeup }
      nmiPending := b.nmiPending ||
        (b.cfg.nmiOnLateEnable && b.plat.rdnmi && v.getLsbD 7 && !b.plat.nmitimen.getLsbD 7) }

namespace Sys2Proof.Claims

/-- The bits of `n` reads of controller port `q`, the first first. -/
def serialBits (bank : Byte) (q : BitVec 1) : Nat → Bus → List Bool
  | 0, _ => []
  | n + 1, b =>
    let r := b.read (mkAddr bank (0x4016 + q.setWidth 16))
    r.v.getLsbD 0 :: serialBits bank q n r.bus

/-- The mask of the controller of a port. -/
def portMask (b : Bus) (q : BitVec 1) : Word := if q = 0 then b.pads.mask.r0 else b.pads.mask.r1

end Sys2Proof.Claims

/-- 20_memory.md R89: after 1 and then 0 is written to 0x4016, the reads of a port give its controller's mask from bit 15 down and then
1s; while the strobe is 1 every read gives bit 15. The last clause, that bits 7:1 are the latch's, is the model's choice (log 16): R89's
pseudocode has it so, but R89 also says that a model must take these bits as any value. -/
def Obligations.ControllerPorts : Prop :=
  ∀ (b : Bus) (bank : Byte) (q : BitVec 1) (n : Nat), isSystemBank bank →
    (let on := b.write (mkAddr bank 0x4016) 1
     serialBits bank q n (on.write (mkAddr bank 0x4016) 0) =
       (List.range n).map (fun k => decide (16 ≤ k) || (portMask b q).getLsbD (15 - k)) ∧
     serialBits bank q n on = List.replicate n ((portMask b q).getLsbD 15)) ∧
    (b.read (mkAddr bank (0x4016 + q.setWidth 16))).v &&& 0xFE = b.latch &&& 0xFE

namespace Sys2Proof.Claims

/-- Where `n` bytes of general DMA leave the A-bus address (60_exceptions.md R437, R438). -/
def dmaEnd (ch : Channel) (n : Nat) : Word :=
  if ch.dmap.getLsbD 3 then ch.a1t
  else if ch.dmap.getLsbD 4 then ch.a1t - BitVec.ofNat 16 n
  else ch.a1t + BitVec.ofNat 16 n

/-- A unit on every channel whose bit is set, channel 0 first. -/
def onSelected (unit : BitVec 3 → Bus → Bus) (v : Byte) (b : Bus) : Bus :=
  (List.range 8).foldl (fun t c => if v.getLsbD c then unit (BitVec.ofNat 3 c) t else t) b

/-- `n` bytes of ROM, byte `k` at A-bus address `src k`, lie in WRAM from the pointer of `b` on; the pointer has moved past them, and no
other byte of WRAM and none of SRAM differs (60_exceptions.md R438, R441; 20_memory.md R88). -/
def CarriedToWram (b t : Bus) (n : Nat) (src : Nat → Addr) : Prop :=
  t.wramPtr = BitVec.ofNat 17 (b.wramPtr.toNat + n) ∧
  (∀ k, k < n → ∀ j, aBusTarget b.cfg b.cart (src k) = .rom j →
    Memory.read t.wram ((b.wramPtr.toNat + k) % 0x20000) = Memory.read b.cart.rom j) ∧
  (∀ i, (∀ k, k < n → i ≠ (b.wramPtr.toNat + k) % 0x20000) → Memory.read t.wram i = Memory.read b.wram i) ∧
  t.sram = b.sram

/-- The first `n` bytes of a source lie in ROM, as DMA sees its A-bus. -/
def inRom (b : Bus) (n : Nat) (src : Nat → Addr) : Prop :=
  ∀ k, k < n → ∃ j, aBusTarget b.cfg b.cart (src k) = .rom j

end Sys2Proof.Claims

/-- 60_exceptions.md R424, R438, R439: general DMA on a channel moves `das` bytes, 65536 when it is 0, and leaves das = 0 and a1t moved by
the count in its direction or fixed; its other registers, the other channels and the platform registers are as before. A channel
that carries ROM to WMDATA, incrementing, leaves in WRAM from the pointer on the bytes of ROM from its A-bus address on, and no
other byte of WRAM or SRAM changes. A write of `v` to MDMAEN runs the channels `v` selects in ascending order, at once, after the
latch holds `v` (that order is the model's choice, log 12); under `after_slice` a write with 1-bits is pending behind the earlier ones, each a transfer of its own, and the
DMA/HDMA phase runs them, write after write, with the channel registers as they then stand (that order and those registers are the
model's choice, log 22). Writing 0 starts nothing. -/
def Obligations.GeneralDma : Prop :=
  ∀ (b : Bus) (c : BitVec 3),
    let ch := b.dma.get c
    let n := if ch.das = 0 then 0x10000 else ch.das.toNat
    let src := fun k => mkAddr ch.a1b (ch.a1t + BitVec.ofNat 16 k)
    (b.runDma c).dma = b.dma.set c { ch with das := 0, a1t := dmaEnd ch n } ∧
    (b.runDma c).plat = b.plat ∧ (b.runDma c).cart = b.cart ∧ (b.runDma c).cfg = b.cfg ∧
    (b.StoresWf → ch.dmap = 0x00 → ch.bbad = 0x80 → inRom b n src → CarriedToWram b (b.runDma c) n src) ∧
    ∀ (bank v : Byte), isSystemBank bank →
      (b.cfg.dmaTiming = .immediate →
        b.write (mkAddr bank 0x420B) v = onSelected (fun k t => t.runDma k) v { b with latch := v }) ∧
      (b.cfg.dmaTiming = .afterSlice →
        (v ≠ 0 → b.write (mkAddr bank 0x420B) v = { b with latch := v, dmaPending := b.dmaPending ++ [v] }) ∧
        b.runPending = b.dmaPending.foldl (fun t m => onSelected (fun k t => t.runDma k) m t) { b with dmaPending := [] }) ∧
      b.write (mkAddr bank 0x420B) 0 = { b with latch := 0 } ∧
      (b.cfg.dmaTiming = .immediate → b.runPending = b)

namespace Sys2Proof.Claims

/-- The byte of a store that DMA reads at an A-bus address; none where the address selects a device, nothing, or a register range
that DMA does not reach (60_exceptions.md R438). -/
def aByte (b : Bus) (a : Addr) : Option Byte :=
  match aBusTarget b.cfg b.cart a with
  | .wram k => some (Memory.read b.wram k)
  | .sram k => some (Memory.read b.sram k)
  | .rom k => some (Memory.read b.cart.rom k)
  | _ => none

/-- DMAP bit 6 (60_exceptions.md R437). -/
def isIndirect (ch : Channel) : Bool := ch.dmap.getLsbD 6

/-- Address `k` bytes after a channel's table address. -/
def tableAddr (ch : Channel) (k : Nat) : Addr := mkAddr ch.a1b (ch.a2a + BitVec.ofNat 16 k)

/-- The channel after it read header `h`, and `hi:lo` where `pointer` says that a pointer was read after it (60_exceptions.md R440,
R441). -/
def afterHeader (ch : Channel) (h lo hi : Byte) (pointer : Bool) : Channel :=
  { ch with
    a2a := ch.a2a + (if pointer then 3 else 1)
    das := if pointer then mkWord hi lo else ch.das
    ntrl := h
    terminated := decide (h = 0)
    doTransfer := decide (h ≠ 0) }

/-- The header at a channel's table address, and with `pointer` the two bytes after it, lie in stores. -/
def headerAt (b : Bus) (ch : Channel) (h lo hi : Byte) (pointer : Bool) : Prop :=
  aByte b (tableAddr ch 0) = some h ∧
    (pointer = true → aByte b (tableAddr ch 1) = some lo ∧ aByte b (tableAddr ch 2) = some hi)

/-- The length of a channel's unit (60_exceptions.md R439). -/
def unitLength (ch : Channel) : Nat := (dmaPattern (ch.dmap.setWidth 3)).length

/-- Address of byte `k` of a channel's unit on the A-bus: in the table, or through the pointer (60_exceptions.md R441). -/
def unitAddr (ch : Channel) (k : Nat) : Addr :=
  if isIndirect ch then mkAddr ch.dasb (ch.das + BitVec.ofNat 16 k) else tableAddr ch k

/-- The channel after its unit: the address its bytes come from has moved by the unit's length. -/
def afterUnit (ch : Channel) : Channel :=
  if isIndirect ch then { ch with das := ch.das + BitVec.ofNat 16 (unitLength ch) }
  else { ch with a2a := ch.a2a + BitVec.ofNat 16 (unitLength ch) }

/-- The channel after it transferred its unit, where it transfers at all. -/
def afterTransfer (ch : Channel) : Channel := if ch.doTransfer then afterUnit ch else ch

/-- The channel after a line that does not finish its entry (60_exceptions.md R441). -/
def counted (ch : Channel) : Channel :=
  { afterTransfer ch with ntrl := ch.ntrl - 1, doTransfer := (ch.ntrl - 1).getLsbD 7 }

/-- The line finishes the channel's entry (60_exceptions.md R441). -/
def finishes (ch : Channel) : Prop := (ch.ntrl - 1) &&& 0x7F = 0

end Sys2Proof.Claims

/-- 60_exceptions.md R425, R440, R441, R439. Initialisation reads the header at the table's start, and in indirect mode the pointer after
it, terminates the channel on 0 and otherwise arms it. A write of HDMAEN stores it and initialises the channels it selects, after
the latch holds `v` (log 12), in ascending order (log 28), leaving the registers of the others (log 21); those three points are the
model's choice. A line moves a unit if the channel transfers, in direct mode from the table and in indirect mode through the
pointer, counts the line counter down, and takes its repeat bit as the next line's transfer; where that finishes the entry it reads
the next header, in indirect mode with the pointer after a header that is not 0. A unit whose offsets are all 0, carried from ROM to
WMDATA, leaves its bytes in WRAM from the pointer on and no other byte of WRAM or SRAM changed. A scanline runs the enabled
channels that have not terminated, in ascending order, and does nothing where there is none. -/
def Obligations.HdmaLines : Prop :=
  ∀ (b : Bus) (c : BitVec 3),
    let ch := b.dma.get c
    (∀ h lo hi, headerAt b { ch with a2a := ch.a1t } h lo hi (isIndirect ch) →
      b.hdmaInit c = { b with
        latch := if isIndirect ch then hi else h
        dma := b.dma.set c (afterHeader { ch with a2a := ch.a1t } h lo hi (isIndirect ch)) }) ∧
    (∀ bank v : Byte, isSystemBank bank →
      b.write (mkAddr bank 0x420C) v =
        onSelected (fun k t => t.hdmaInit k) v { b with latch := v, plat := { b.plat with hdmaen := v } }) ∧
    (ch.doTransfer = false → ¬finishes ch → b.hdmaLine c = { b with dma := b.dma.set c (counted ch) }) ∧
    (ch.doTransfer = true → ¬finishes ch → (b.hdmaLine c).dma = b.dma.set c (counted ch)) ∧
    (∀ h lo hi, ch.doTransfer = false → finishes ch → headerAt b ch h lo hi (isIndirect ch && decide (h ≠ 0)) →
      b.hdmaLine c = { b with
        latch := if isIndirect ch && decide (h ≠ 0) then hi else h
        dma := b.dma.set c (afterHeader ch h lo hi (isIndirect ch && decide (h ≠ 0))) }) ∧
    (∀ h lo hi, ch.doTransfer = true → finishes ch →
      inRom b (if isIndirect ch && decide (h ≠ 0) then 3 else 1) (tableAddr (afterUnit ch)) →
      headerAt b (afterUnit ch) h lo hi (isIndirect ch && decide (h ≠ 0)) →
      (b.hdmaLine c).dma = b.dma.set c (afterHeader (afterUnit ch) h lo hi (isIndirect ch && decide (h ≠ 0)))) ∧
    (b.StoresWf → ch.doTransfer = true → ch.dmap.getLsbD 7 = false → ch.bbad = 0x80 →
      (∀ o ∈ dmaPattern (ch.dmap.setWidth 3), o = 0) → inRom b (unitLength ch) (unitAddr ch) →
      CarriedToWram b (b.hdmaLine c) (unitLength ch) (unitAddr ch)) ∧
    b.hdmaLines = (List.range 8).foldl (fun t k =>
      if t.plat.hdmaen.getLsbD k = true ∧ (t.dma.get (BitVec.ofNat 3 k)).terminated = false then
        t.hdmaLine (BitVec.ofNat 3 k)
      else t) b ∧
    ((∀ k, b.plat.hdmaen.getLsbD k.toNat = false ∨ (b.dma.get k).terminated = true) → b.hdmaLines = b) ∧
    (dmaPattern 0 = [0] ∧ dmaPattern 1 = [0, 1] ∧ dmaPattern 2 = [0, 0] ∧ dmaPattern 3 = [0, 0, 1, 1] ∧
      dmaPattern 4 = [0, 1, 2, 3] ∧ dmaPattern 5 = [0, 1, 0, 1] ∧ dmaPattern 6 = [0, 0] ∧ dmaPattern 7 = [0, 0, 1, 1])

end
end

