-- ==== Sys2Proof/Laws/Bits.lean ====
section
/-! SUPPORT. Laws of the bit-field helpers and of the flags of P. -/
namespace Sys2Proof

theorem getLsbD_mkWord (h l : Byte) (i : Nat) :
    (mkWord h l).getLsbD i = if i < 8 then l.getLsbD i else h.getLsbD (i - 8) := by
  have := BitVec.getLsbD_append (x := h) (y := l) (i := i)
  simpa [mkWord] using this

theorem getLsbD_mkAddr (b : Byte) (o : Word) (i : Nat) :
    (mkAddr b o).getLsbD i = if i < 16 then o.getLsbD i else b.getLsbD (i - 16) := by
  have := BitVec.getLsbD_append (x := b) (y := o) (i := i)
  simpa [mkAddr] using this

theorem getLsbD_loByte (v : Word) (i : Nat) : (loByte v).getLsbD i = (decide (i < 8) && v.getLsbD i) := by
  simp [loByte]

theorem getLsbD_hiByte (v : Word) (i : Nat) : (hiByte v).getLsbD i = (decide (i < 8) && v.getLsbD (8 + i)) := by
  simp [hiByte]

theorem getLsbD_zext (v : Byte) (i : Nat) : (zext v).getLsbD i = v.getLsbD i := by
  simp only [zext, BitVec.getLsbD_setWidth]
  by_cases h : i < 16
  · simp [h]
  · simp [h, BitVec.getLsbD_of_ge v i (by omega)]

theorem getLsbD_bankOf (a : Addr) (i : Nat) : (bankOf a).getLsbD i = (decide (i < 8) && a.getLsbD (16 + i)) := by
  simp [bankOf]

theorem getLsbD_offOf (a : Addr) (i : Nat) : (offOf a).getLsbD i = (decide (i < 16) && a.getLsbD i) := by
  simp [offOf]

@[simp] theorem loByte_mkWord (h l : Byte) : loByte (mkWord h l) = l := by
  apply BitVec.eq_of_getLsbD_eq
  intro i hi
  simp [-BitVec.getLsbD_eq_getElem, getLsbD_loByte, getLsbD_mkWord, hi]

@[simp] theorem hiByte_mkWord (h l : Byte) : hiByte (mkWord h l) = h := by
  apply BitVec.eq_of_getLsbD_eq
  intro i hi
  simp [-BitVec.getLsbD_eq_getElem, getLsbD_hiByte, getLsbD_mkWord, hi]

@[simp] theorem mkWord_hi_lo (w : Word) : mkWord (hiByte w) (loByte w) = w := by
  apply BitVec.eq_of_getLsbD_eq
  intro i hi
  by_cases h : i < 8
  · simp [-BitVec.getLsbD_eq_getElem, getLsbD_loByte, getLsbD_mkWord, h]
  · simp [-BitVec.getLsbD_eq_getElem, getLsbD_hiByte, getLsbD_mkWord, h, show i - 8 < 8 by omega, show 8 + (i - 8) = i by omega]

@[simp] theorem loByte_zext (b : Byte) : loByte (zext b) = b := by
  apply BitVec.eq_of_getLsbD_eq
  intro i hi
  simp [-BitVec.getLsbD_eq_getElem, getLsbD_loByte, getLsbD_zext, hi]

@[simp] theorem hiByte_zext (b : Byte) : hiByte (zext b) = 0 := by
  apply BitVec.eq_of_getLsbD_eq
  intro i hi
  simp [-BitVec.getLsbD_eq_getElem, getLsbD_hiByte, getLsbD_zext, hi]

@[simp] theorem hiByte_zero : hiByte 0 = 0 := by decide

@[simp] theorem loByte_zero : loByte 0 = 0 := by decide

@[simp] theorem bankOf_mkAddr (b : Byte) (o : Word) : bankOf (mkAddr b o) = b := by
  apply BitVec.eq_of_getLsbD_eq
  intro i hi
  simp [-BitVec.getLsbD_eq_getElem, getLsbD_bankOf, getLsbD_mkAddr, hi]

@[simp] theorem offOf_mkAddr (b : Byte) (o : Word) : offOf (mkAddr b o) = o := by
  apply BitVec.eq_of_getLsbD_eq
  intro i hi
  simp [-BitVec.getLsbD_eq_getElem, getLsbD_offOf, getLsbD_mkAddr, hi]

@[simp] theorem mkAddr_bank_off (a : Addr) : mkAddr (bankOf a) (offOf a) = a := by
  apply BitVec.eq_of_getLsbD_eq
  intro i hi
  by_cases h : i < 16
  · simp [-BitVec.getLsbD_eq_getElem, getLsbD_offOf, getLsbD_mkAddr, h]
  · simp [-BitVec.getLsbD_eq_getElem, getLsbD_bankOf, getLsbD_mkAddr, h, show i - 16 < 8 by omega, show 16 + (i - 16) = i by omega]

theorem eq_of_hiByte_loByte {v w : Word} (h : hiByte v = hiByte w) (l : loByte v = loByte w) : v = w := by
  rw [← mkWord_hi_lo v, ← mkWord_hi_lo w, h, l]

theorem zext_loByte_of_hiByte {v : Word} (h : hiByte v = 0) : zext (loByte v) = v :=
  eq_of_hiByte_loByte (by simp [h]) (by simp)

@[simp] theorem Width.trunc_b16 (v : Word) : Width.trunc .b16 v = v := rfl

@[simp] theorem Width.trunc_b8 (v : Word) : Width.trunc .b8 v = zext (loByte v) := rfl

@[simp] theorem Width.merge_b16 (o v : Word) : Width.merge .b16 o v = v := rfl

@[simp] theorem Width.merge_b8 (o v : Word) : Width.merge .b8 o v = mkWord (hiByte o) (loByte v) := rfl

@[simp] theorem Width.trunc_trunc (w : Width) (v : Word) : w.trunc (w.trunc v) = w.trunc v := by
  cases w <;> simp

@[simp] theorem Width.trunc_merge (w : Width) (o v : Word) : w.trunc (w.merge o v) = w.trunc v := by
  cases w <;> simp

/-- A write at 8 bits keeps the high byte. -/
theorem Width.hiByte_merge_b8 (o v : Word) : hiByte (Width.merge .b8 o v) = hiByte o := by simp

namespace Machine

/-- A flag read back after a flag is written. -/
@[simp] theorem flagOf_withFlag (p : Byte) (f g : Flag) (b : Bool) :
    flagOf (withFlag p f b) g = if f = g then b else flagOf p g := by
  unfold flagOf withFlag Flag.mask
  cases f <;> cases g <;> cases b <;> simp [Flag.bit]

/-- Bits of P other than the written flag's are kept. -/
theorem withFlag_getLsbD (p : Byte) (f : Flag) (b : Bool) (k : Nat) (h : k ≠ f.bit) :
    (withFlag p f b).getLsbD k = p.getLsbD k := by
  unfold withFlag Flag.mask
  by_cases hk : k < 8
  · interval_cases k <;> cases f <;> cases b <;> simp_all [Flag.bit]
  · simp [BitVec.getLsbD_of_ge, Nat.le_of_not_lt hk]

/-- `SetNZ` writes N and Z only. -/
@[simp] theorem flagOf_setNZ (w : Width) (v : Word) (p : Byte) (f : Flag) :
    flagOf (setNZ w v p) f = if f = .z then w.trunc v == 0 else if f = .n then w.msb v else flagOf p f := by
  unfold setNZ
  cases f <;> simp

/-- Two status bytes with the same flags are the same. -/
theorem p_ext {p q : Byte} (h : ∀ f, flagOf p f = flagOf q f) : p = q := by
  ext i hi
  have hn := h .n; have hv := h .v; have hm := h .m; have hx := h .x
  have hd := h .d; have hI := h .i; have hz := h .z; have hc := h .c
  simp only [flagOf, Flag.bit] at hn hv hm hx hd hI hz hc
  interval_cases i <;> simp_all [BitVec.getLsbD_eq_getElem]

end Machine
end Sys2Proof
end

