-- ==== Sys2Proof/Laws/Memory.lean ====
section
/-! SUPPORT. Laws of the byte stores: a read after a write, what a write leaves alone, and that every operation keeps the canonical form. -/
namespace Sys2Proof.Machine

/-- A canonical store from a higher index is canonical from a lower one. -/
theorem Memory.wfFrom_mono {lo hi : Nat} (h : lo ≤ hi) {m : Memory} (w : Memory.wfFrom hi m = true) :
    Memory.wfFrom lo m = true := by
  cases m with
  | nil => rfl
  | cons c m =>
    simp only [Memory.wfFrom, Bool.and_eq_true, decide_eq_true_eq] at w ⊢
    exact ⟨⟨by omega, w.1.2⟩, w.2⟩

/-- Below its first index a canonical store lists nothing. -/
theorem Memory.read_of_lt {lo k : Nat} {m : Memory} (w : Memory.wfFrom lo m = true) (h : k < lo) :
    Memory.read m k = Memory.unlisted := by
  induction m generalizing lo with
  | nil => rfl
  | cons c m ih =>
    simp only [Memory.wfFrom, Bool.and_eq_true, decide_eq_true_eq] at w
    rw [Memory.read, if_neg (by omega)]
    exact ih w.2 (by omega)

/-- A read of the written index gives the written byte. -/
theorem Memory.read_write_self {lo : Nat} {m : Memory} (w : Memory.wfFrom lo m = true) (k : Nat) (v : Byte) :
    Memory.read (Memory.write m k v) k = v := by
  induction m generalizing lo with
  | nil => by_cases h : v = Memory.unlisted <;> simp [Memory.write, Memory.read, h]
  | cons c m ih =>
    simp only [Memory.wfFrom, Bool.and_eq_true, decide_eq_true_eq] at w
    simp only [Memory.write]
    split
    · rw [Memory.read, if_neg (by omega)]; exact ih w.2
    · by_cases h : v = Memory.unlisted
      · simp only [h, if_true]
        split
        · exact Memory.read_of_lt w.2 (by omega)
        · rw [Memory.read, if_neg (by omega)]; exact Memory.read_of_lt w.2 (by omega)
      · simp [h, Memory.read]

/-- A write leaves every other index alone. -/
theorem Memory.read_write_ne (m : Memory) {k j : Nat} (h : j ≠ k) (v : Byte) :
    Memory.read (Memory.write m k v) j = Memory.read m j := by
  induction m with
  | nil => by_cases hv : v = Memory.unlisted <;> simp [Memory.write, Memory.read, hv, h.symm]
  | cons c m ih =>
    simp only [Memory.write]
    split
    · simp only [Memory.read, ih]
    · by_cases hv : v = Memory.unlisted <;> by_cases hk : c.1 = k <;> simp [Memory.read, hv, hk, h.symm]

/-- A write keeps the canonical form. -/
theorem Memory.wfFrom_write {lo k : Nat} {m : Memory} (w : Memory.wfFrom lo m = true) (h : lo ≤ k) (v : Byte) :
    Memory.wfFrom lo (Memory.write m k v) = true := by
  induction m generalizing lo with
  | nil => by_cases hv : v = Memory.unlisted <;> simp [Memory.write, Memory.wfFrom, hv, h]
  | cons c m ih =>
    have w' := w
    simp only [Memory.wfFrom, Bool.and_eq_true, decide_eq_true_eq] at w
    simp only [Memory.write]
    split
    · simp only [Memory.wfFrom, Bool.and_eq_true, decide_eq_true_eq]
      exact ⟨w.1, ih w.2 (by omega)⟩
    · have ht : ∀ l, l ≤ k → c.1 ≠ k → Memory.wfFrom (l + 1) (c :: m) = true := by
        intro l hl hk
        simp only [Memory.wfFrom, Bool.and_eq_true, decide_eq_true_eq]
        exact ⟨⟨by omega, w.1.2⟩, w.2⟩
      by_cases hv : v = Memory.unlisted <;> by_cases hk : c.1 = k
      · simp only [hv, hk, if_true]; exact Memory.wfFrom_mono (by omega) w.2
      · simp only [hv, hk, if_true, if_false]; exact w'
      · subst hk
        simp only [hv, if_true, if_false, Memory.wfFrom, Bool.and_eq_true, decide_eq_true_eq]
        exact ⟨⟨h, hv⟩, w.2⟩
      · simp only [hv, hk, if_false, Memory.wfFrom, Bool.and_eq_true, decide_eq_true_eq]
        exact ⟨⟨h, hv⟩, ⟨⟨by omega, w.1.2⟩, w.2⟩⟩

theorem Memory.wf_write {m : Memory} (w : Memory.wf m = true) (k : Nat) (v : Byte) :
    Memory.wf (Memory.write m k v) = true := Memory.wfFrom_write w (Nat.zero_le k) v

/-- A write inside the size keeps the store inside the size. -/
theorem Memory.below_write {n k : Nat} {m : Memory} (w : Memory.below n m = true) (h : k < n) (v : Byte) :
    Memory.below n (Memory.write m k v) = true := by
  induction m with
  | nil => by_cases hv : v = Memory.unlisted <;> simp [Memory.write, Memory.below, hv, h]
  | cons c m ih =>
    simp only [Memory.below, List.all_cons, Bool.and_eq_true, decide_eq_true_eq] at w ih ⊢
    simp only [Memory.write]
    split
    · simp only [List.all_cons, Bool.and_eq_true, decide_eq_true_eq]; exact ⟨w.1, ih w.2⟩
    · by_cases hv : v = Memory.unlisted <;> by_cases hk : c.1 = k <;>
        simp only [hv, hk, if_true, if_false, List.all_cons, Bool.and_eq_true, decide_eq_true_eq]
      · exact w.2
      · exact w
      · exact ⟨h, w.2⟩
      · exact ⟨h, w⟩

/-- Equal reads mean equal canonical stores. -/
theorem Memory.ext_read {lo : Nat} {m m' : Memory} (w : Memory.wfFrom lo m = true) (w' : Memory.wfFrom lo m' = true)
    (h : ∀ k, Memory.read m k = Memory.read m' k) : m = m' := by
  induction m generalizing lo m' with
  | nil =>
    cases m' with
    | nil => rfl
    | cons c' m' =>
      simp only [Memory.wfFrom, Bool.and_eq_true, decide_eq_true_eq] at w'
      have := h c'.1
      simp only [Memory.read, if_true] at this
      exact absurd this.symm w'.1.2
  | cons c m ih =>
    simp only [Memory.wfFrom, Bool.and_eq_true, decide_eq_true_eq] at w
    cases m' with
    | nil =>
      have := h c.1
      simp only [Memory.read, if_true] at this
      exact absurd this w.1.2
    | cons c' m' =>
      simp only [Memory.wfFrom, Bool.and_eq_true, decide_eq_true_eq] at w'
      have hk : c.1 = c'.1 := by
        rcases Nat.lt_trichotomy c.1 c'.1 with hlt | heq | hgt
        · have := h c.1
          rw [Memory.read, if_pos rfl, Memory.read, if_neg (by omega), Memory.read_of_lt w'.2 (by omega)] at this
          exact absurd this w.1.2
        · exact heq
        · have := h c'.1
          rw [Memory.read, if_neg (by omega), Memory.read_of_lt w.2 (by omega), Memory.read, if_pos rfl] at this
          exact absurd this.symm w'.1.2
      have hv : c.2 = c'.2 := by
        have := h c.1
        rwa [Memory.read, if_pos rfl, Memory.read, if_pos hk.symm] at this
      have hc : c = c' := Prod.ext hk hv
      subst hc
      congr 1
      refine ih w.2 w'.2 fun k => ?_
      rcases Nat.lt_or_ge c.1 k with hlt | hge
      · have := h k
        rwa [Memory.read, if_neg (by omega), Memory.read, if_neg (by omega)] at this
      · rw [Memory.read_of_lt w.2 (by omega), Memory.read_of_lt w'.2 (by omega)]

/-- An image is canonical. -/
theorem Memory.wfFrom_image (k : Nat) (vs : List Byte) : Memory.wfFrom k (Memory.image k vs) = true := by
  induction vs generalizing k with
  | nil => rfl
  | cons v vs ih =>
    simp only [Memory.image]
    split
    · exact Memory.wfFrom_mono (Nat.le_succ k) (ih (k + 1))
    · rename_i hv
      simp [Memory.wfFrom, hv, ih (k + 1)]

theorem Memory.wf_image (vs : List Byte) : Memory.wf (Memory.image 0 vs) = true := Memory.wfFrom_image 0 vs

/-- An image lists indices inside its range. -/
theorem Memory.below_image (k n : Nat) (vs : List Byte) (h : k + vs.length ≤ n) :
    Memory.below n (Memory.image k vs) = true := by
  induction vs generalizing k with
  | nil => rfl
  | cons v vs ih =>
    simp only [List.length_cons] at h
    have := ih (k + 1) (by omega)
    simp only [Memory.below] at this
    simp only [Memory.image]
    split
    · exact this
    · simp only [Memory.below, List.all_cons, this, Bool.and_true, decide_eq_true_eq]; omega

/-- A read of an image gives its byte. -/
theorem Memory.read_image (k : Nat) (vs : List Byte) (i : Nat) :
    Memory.read (Memory.image k vs) (k + i) = vs.getD i Memory.unlisted := by
  induction vs generalizing k i with
  | nil => rfl
  | cons v vs ih =>
    simp only [Memory.image]
    cases i with
    | zero =>
      split
      · rename_i hv
        rw [Memory.read_of_lt (Memory.wfFrom_image (k + 1) vs) (by omega)]; simp [hv]
      · simp [Memory.read]
    | succ i =>
      have := ih (k + 1) i
      rw [show k + 1 + i = k + (i + 1) by omega] at this
      split
      · simpa using this
      · rw [Memory.read, if_neg (by omega)]; simpa using this

end Sys2Proof.Machine
end

