-- ==== Sys2Proof/Laws/Bus.lean ====
section
/-! SUPPORT. Laws of the bus: what a read can change, what a write can change, that DMA and HDMA keep the parameters, the cartridge and the form of the stores. -/
namespace Sys2Proof.Machine

namespace Bus.Reads
variable {b b' b'' : Bus}

theorem refl (b : Bus) : b.Reads b := rfl

theorem cfg (h : b.Reads b') : b'.cfg = b.cfg := by rw [h]
theorem cart (h : b.Reads b') : b'.cart = b.cart := by rw [h]
theorem wram (h : b.Reads b') : b'.wram = b.wram := by rw [h]
theorem sram (h : b.Reads b') : b'.sram = b.sram := by rw [h]
theorem toApu (h : b.Reads b') : b'.toApu = b.toApu := by rw [h]
theorem fromApu (h : b.Reads b') : b'.fromApu = b.fromApu := by rw [h]
theorem dma (h : b.Reads b') : b'.dma = b.dma := by rw [h]
theorem dmaPending (h : b.Reads b') : b'.dmaPending = b.dmaPending := by rw [h]
theorem nmiPending (h : b.Reads b') : b'.nmiPending = b.nmiPending := by rw [h]

theorem trans (h : b.Reads b') (h' : b'.Reads b'') : b.Reads b'' := by
  unfold Bus.Reads at *
  rw [h] at h'
  exact h'

theorem storesWf (h : b.Reads b') (w : b.StoresWf) : b'.StoresWf := by
  constructor <;> simp only [h.cart, h.wram, h.sram]
  exacts [w.wram_wf, w.wram_below, w.sram_wf, w.sram_below, w.rom_wf, w.rom_below]

/-- Reads change no byte of WRAM, SRAM or ROM. -/
theorem storeByte (h : b.Reads b') (a : Addr) : b'.storeByte a = b.storeByte a := by
  simp only [Bus.storeByte, h.cfg, h.cart, h.wram, h.sram]

theorem busTarget (h : b.Reads b') (a : Addr) : busTarget b'.cfg b'.cart a = busTarget b.cfg b.cart a := by
  rw [h.cfg, h.cart]

end Bus.Reads

theorem Bus.readPlatform_reads (b : Bus) (r : BitVec 5) : b.Reads (b.readPlatform r).bus := by
  unfold Bus.readPlatform
  split <;> rfl

theorem Bus.readSerial_reads (b : Bus) (q : BitVec 1) : b.Reads (b.readSerial q).bus := by
  unfold Bus.readSerial
  dsimp only
  split
  · rfl
  · split <;> rfl

theorem Bus.readTarget_reads (b : Bus) (t : Target) : b.Reads (b.readTarget t).bus := by
  cases t with
  | wramPort r => unfold Bus.readTarget; dsimp only; split <;> rfl
  | serial q => exact b.readSerial_reads q
  | platform r => exact b.readPlatform_reads r
  | _ => rfl

/-- The latch holds the byte a read returned (20_memory.md R97). -/
@[simp] theorem Bus.readAt_latch (b : Bus) (t : Target) : (b.readAt t).bus.latch = (b.readAt t).v := rfl

@[simp] theorem Bus.read_latch (b : Bus) (a : Addr) : (b.read a).bus.latch = (b.read a).v := rfl

theorem Bus.readAt_reads (b : Bus) (t : Target) : b.Reads (b.readAt t).bus :=
  (b.readTarget_reads t).trans rfl

theorem Bus.read_reads (b : Bus) (a : Addr) : b.Reads (b.read a).bus := b.readAt_reads _

/-- A read of WRAM, SRAM or ROM returns the store's byte and changes the latch only. -/
theorem Bus.read_of_storeByte {b : Bus} {a : Addr} {v : Byte} (h : b.storeByte a = some v) :
    b.read a = { v := v, bus := { b with latch := v } } := by
  unfold Bus.storeByte at h
  unfold Bus.read Bus.readAt Bus.readTarget
  split at h <;> simp_all

/-- The bounds of a store index. -/
def Target.inBounds (cart : Cartridge) : Target → Prop
  | .wram k => k < 0x20000
  | .sram k => k < cart.sramSize
  | _ => True

theorem cartTarget_inBounds (cfg : Config) (cart : Cartridge) (bank off : Nat) :
    (cartTarget cfg cart bank off).inBounds cart := by
  unfold cartTarget loRomTarget hiRomTarget
  split <;> (split; · trivial) <;> (split <;> [skip; trivial])
  · rename_i h; exact Nat.mod_lt _ h.2.2
  · rename_i h; exact Nat.mod_lt _ h.2.2.2.2

theorem busTarget_inBounds (cfg : Config) (cart : Cartridge) (a : Addr) : (busTarget cfg cart a).inBounds cart := by
  unfold busTarget
  have ho := (offOf a).isLt
  dsimp only
  split
  · rename_i h
    simp only [Target.inBounds]
    rcases h with h | h <;> rw [h] <;> omega
  · split
    · split
      · simp only [Target.inBounds]; omega
      · repeat' split
        all_goals first | exact trivial | exact cartTarget_inBounds _ _ _ _
    · exact cartTarget_inBounds _ _ _ _

theorem aBusTarget_inBounds (cfg : Config) (cart : Cartridge) (a : Addr) : (aBusTarget cfg cart a).inBounds cart := by
  unfold aBusTarget
  dsimp only
  split
  · trivial
  · exact busTarget_inBounds cfg cart a

theorem bBusTarget_inBounds (cart : Cartridge) (r : Byte) : (bBusTarget r).inBounds cart := by
  unfold bBusTarget
  repeat' split
  all_goals trivial

/-- What every operation of the bus keeps: the parameters, the cartridge, and the form of the stores. -/
structure Bus.Keeps (b b' : Bus) : Prop where
  cfg : b'.cfg = b.cfg
  cart : b'.cart = b.cart
  storesWf : b.StoresWf → b'.StoresWf

namespace Bus.Keeps
variable {b b' b'' : Bus}

theorem refl (b : Bus) : b.Keeps b := ⟨rfl, rfl, id⟩

theorem trans (h : b.Keeps b') (h' : b'.Keeps b'') : b.Keeps b'' :=
  ⟨h'.cfg.trans h.cfg, h'.cart.trans h.cart, fun w => h'.storesWf (h.storesWf w)⟩

/-- Stores left alone. -/
theorem of_stores (hc : b'.cfg = b.cfg) (hk : b'.cart = b.cart) (hw : b'.wram = b.wram) (hs : b'.sram = b.sram) :
    b.Keeps b' := by
  refine ⟨hc, hk, fun w => ?_⟩
  constructor <;> simp only [hk, hw, hs]
  exacts [w.wram_wf, w.wram_below, w.sram_wf, w.sram_below, w.rom_wf, w.rom_below]

theorem foldl {α : Type} (f : Bus → α → Bus) (hf : ∀ (b : Bus) (x : α), b.Keeps (f b x)) (xs : List α) (b : Bus) :
    b.Keeps (xs.foldl f b) := by
  induction xs generalizing b with
  | nil => exact refl b
  | cons x xs ih => exact (hf b x).trans (ih (f b x))

theorem ite {p : Prop} [Decidable p] (h : b.Keeps b') (h' : b.Keeps b'') : b.Keeps (if p then b' else b'') := by
  split <;> assumption

end Bus.Keeps

theorem Bus.Reads.keeps {b b' : Bus} (h : b.Reads b') : b.Keeps b' := ⟨h.cfg, h.cart, h.storesWf⟩

/-- WRAM with one byte written. -/
theorem Bus.keeps_wram (b : Bus) {k : Nat} (h : k < 0x20000) (v : Byte) :
    b.Keeps { b with wram := Memory.write b.wram k v } :=
  ⟨rfl, rfl, fun w => { w with wram_wf := Memory.wf_write w.wram_wf k v, wram_below := Memory.below_write w.wram_below h v }⟩

/-- SRAM with one byte written. -/
theorem Bus.keeps_sram (b : Bus) {k : Nat} (h : k < b.cart.sramSize) (v : Byte) :
    b.Keeps { b with sram := Memory.write b.sram k v } :=
  ⟨rfl, rfl, fun w => { w with sram_wf := Memory.wf_write w.sram_wf k v, sram_below := Memory.below_write w.sram_below h v }⟩

theorem Bus.writePlatform_keeps (b : Bus) (r : BitVec 5) (v : Byte) : b.Keeps (b.writePlatform r v) := by
  unfold Bus.writePlatform
  split <;> (try split) <;> exact .of_stores rfl rfl rfl rfl

theorem Bus.writeWramPort_keeps (b : Bus) (r : BitVec 2) (v : Byte) : b.Keeps (b.writeWramPort r v) := by
  unfold Bus.writeWramPort
  split
  · exact (b.keeps_wram b.wramPtr.isLt v).trans (.of_stores rfl rfl rfl rfl)
  · repeat' split
    all_goals exact .of_stores rfl rfl rfl rfl

theorem Bus.writeTarget_keeps (b : Bus) {t : Target} (h : t.inBounds b.cart) (v : Byte) :
    b.Keeps (b.writeTarget t v) := by
  cases t with
  | wram k => exact b.keeps_wram h v
  | sram k => exact b.keeps_sram h v
  | wramPort r => exact b.writeWramPort_keeps r v
  | platform r => exact b.writePlatform_keeps r v
  | _ => exact .of_stores rfl rfl rfl rfl

theorem Bus.writeAt_keeps (b : Bus) {t : Target} (h : t.inBounds b.cart) (v : Byte) : b.Keeps (b.writeAt t v) :=
  (b.writeTarget_keeps h v).trans (.of_stores rfl rfl rfl rfl)

theorem Bus.writeA_keeps (b : Bus) (a : Addr) (v : Byte) : b.Keeps (b.writeA a v) :=
  b.writeAt_keeps (aBusTarget_inBounds _ _ a) v

theorem Bus.writeB_keeps (b : Bus) (r v : Byte) : b.Keeps (b.writeB r v) := b.writeAt_keeps (bBusTarget_inBounds _ r) v

theorem Bus.readA_keeps (b : Bus) (a : Addr) : b.Keeps (b.readA a).bus := (b.readAt_reads _).keeps

theorem Bus.withChannel_keeps (b : Bus) (c : BitVec 3) (ch : Channel) : b.Keeps (b.withChannel c ch) :=
  .of_stores rfl rfl rfl rfl

theorem Bus.moveByte_keeps (b : Bus) (toA : Bool) (a : Addr) (r : Byte) : b.Keeps (b.moveByte toA a r) := by
  unfold Bus.moveByte
  dsimp only
  split
  · exact (b.readAt_reads _).keeps.trans (Bus.writeA_keeps _ _ _)
  · exact (b.readAt_reads _).keeps.trans (Bus.writeB_keeps _ _ _)

theorem Bus.dmaByte_keeps (c : BitVec 3) (n : Nat) (b : Bus) : b.Keeps (b.dmaByte c n) :=
  (b.moveByte_keeps _ _ _).trans (Bus.withChannel_keeps _ _ _)

theorem Bus.dmaLoop_keeps (c : BitVec 3) (k n : Nat) (b : Bus) : b.Keeps (Bus.dmaLoop c k n b) := by
  induction k generalizing n b with
  | zero => exact .refl b
  | succ k ih => exact (b.dmaByte_keeps c n).trans (ih (n + 1) _)

theorem Bus.runDma_keeps (b : Bus) (c : BitVec 3) : b.Keeps (b.runDma c) := Bus.dmaLoop_keeps _ _ _ _

theorem Bus.runDmaMask_keeps (b : Bus) (mask : Byte) : b.Keeps (b.runDmaMask mask) :=
  Bus.Keeps.foldl _ (fun b c => .ite (b.runDma_keeps c) (.refl b)) _ b

theorem Bus.runDmaMasks_keeps (l : List Byte) (b : Bus) : b.Keeps (l.foldl Bus.runDmaMask b) :=
  Bus.Keeps.foldl _ Bus.runDmaMask_keeps l b

theorem Bus.startDma_keeps (b : Bus) (v : Byte) : b.Keeps (b.startDma v) := by
  unfold Bus.startDma
  split
  · exact b.runDmaMask_keeps v
  · exact .of_stores rfl rfl rfl rfl

theorem Bus.hdmaPointer_keeps (c : BitVec 3) (b : Bus) : b.Keeps (b.hdmaPointer c) :=
  (b.readA_keeps _).trans ((Bus.readA_keeps _ _).trans (Bus.withChannel_keeps _ _ _))

theorem Bus.hdmaHeader_keeps (c : BitVec 3) (init : Bool) (b : Bus) : b.Keeps (b.hdmaHeader c init) := by
  unfold Bus.hdmaHeader
  dsimp only
  split
  · exact ((b.readA_keeps _).trans (Bus.withChannel_keeps _ _ _)).trans (Bus.hdmaPointer_keeps c _)
  · exact (b.readA_keeps _).trans (Bus.withChannel_keeps _ _ _)

theorem Bus.hdmaInit_keeps (c : BitVec 3) (b : Bus) : b.Keeps (b.hdmaInit c) :=
  (b.withChannel_keeps _ _).trans (Bus.hdmaHeader_keeps c true _)

theorem Bus.hdmaInitMask_keeps (b : Bus) (mask : Byte) : b.Keeps (b.hdmaInitMask mask) :=
  Bus.Keeps.foldl _ (fun b c => .ite (b.hdmaInit_keeps c) (.refl b)) _ b

theorem Bus.hdmaByte_keeps (c : BitVec 3) (b : Bus) (off : Byte) : b.Keeps (Bus.hdmaByte c b off) := by
  unfold Bus.hdmaByte
  dsimp only
  split <;> exact (b.moveByte_keeps _ _ _).trans (Bus.withChannel_keeps _ _ _)

theorem Bus.hdmaUnit_keeps (c : BitVec 3) (b : Bus) : b.Keeps (b.hdmaUnit c) :=
  Bus.Keeps.foldl _ (fun b o => b.hdmaByte_keeps c o) _ b

theorem Bus.hdmaLine_keeps (c : BitVec 3) (b : Bus) : b.Keeps (b.hdmaLine c) := by
  have h1 : b.Keeps (if (b.dma.get c).doTransfer then b.hdmaUnit c else b) := by
    exact .ite (b.hdmaUnit_keeps c) (.refl b)
  unfold Bus.hdmaLine
  dsimp only
  generalize (if (b.dma.get c).doTransfer then b.hdmaUnit c else b) = b1 at h1 ⊢
  split
  · exact (h1.trans (Bus.withChannel_keeps _ _ _)).trans (Bus.hdmaHeader_keeps c false _)
  · exact h1.trans (Bus.withChannel_keeps _ _ _)

theorem Bus.hdmaLines_keeps (b : Bus) : b.Keeps b.hdmaLines :=
  Bus.Keeps.foldl _ (fun b c => .ite (b.hdmaLine_keeps c) (.refl b)) _ b

theorem Bus.write_keeps (b : Bus) (a : Addr) (v : Byte) : b.Keeps (b.write a v) := by
  have h1 := b.writeAt_keeps (busTarget_inBounds b.cfg b.cart a) v
  unfold Bus.write
  dsimp only
  split
  · exact h1.trans (Bus.startDma_keeps _ v)
  · split
    · exact h1.trans (Bus.hdmaInitMask_keeps _ v)
    · exact h1

/-- A write of a target that starts no DMA is the access and the latch. -/
theorem Bus.write_of_plain {b : Bus} {a : Addr} (h : (busTarget b.cfg b.cart a).plain = true) (v : Byte) :
    b.write a v = b.writeAt (busTarget b.cfg b.cart a) v := by
  unfold Bus.write
  dsimp only
  rw [if_neg, if_neg]
  all_goals
    intro e
    rw [e] at h
    exact absurd h (by decide)

/-- A plain write of one target leaves the byte of every other target alone. -/
theorem Bus.storeByte_write_ne {b : Bus} {a a' : Addr} (h : (busTarget b.cfg b.cart a).plain = true)
    (hne : busTarget b.cfg b.cart a' ≠ busTarget b.cfg b.cart a) (v : Byte) :
    (b.write a v).storeByte a' = b.storeByte a' := by
  have hk := b.write_keeps a v
  unfold Bus.storeByte
  rw [hk.cfg, hk.cart, Bus.write_of_plain h v]
  revert h hne
  generalize busTarget b.cfg b.cart a = t
  generalize busTarget b.cfg b.cart a' = t'
  intro h hne
  cases t with
  | wram k =>
    cases t' <;> simp only [Bus.writeAt, Bus.writeTarget]
    rw [Memory.read_write_ne _ (fun e => hne (by rw [e]))]
  | sram k =>
    cases t' <;> simp only [Bus.writeAt, Bus.writeTarget]
    rw [Memory.read_write_ne _ (fun e => hne (by rw [e]))]
  | wramPort r =>
    have hr : ¬ r = 0 := by simpa [Target.plain] using h
    have : (b.writeWramPort r v).wram = b.wram ∧ (b.writeWramPort r v).sram = b.sram := by
      unfold Bus.writeWramPort
      rw [if_neg hr]
      repeat' split
      all_goals exact ⟨rfl, rfl⟩
    cases t' <;> simp only [Bus.writeAt, Bus.writeTarget, this.1, this.2]
  | platform r =>
    have : (b.writePlatform r v).wram = b.wram ∧ (b.writePlatform r v).sram = b.sram := by
      unfold Bus.writePlatform
      split <;> (try split) <;> exact ⟨rfl, rfl⟩
    cases t' <;> simp only [Bus.writeAt, Bus.writeTarget, this.1, this.2]
  | _ => cases t' <;> simp only [Bus.writeAt, Bus.writeTarget]

theorem Target.plain_of_isRam {t : Target} (h : t.isRam = true) : t.plain = true := by cases t <;> simp_all [isRam, plain]

/-- A write of WRAM or SRAM reads back. -/
theorem Bus.storeByte_write_self {b : Bus} (w : b.StoresWf) {a : Addr}
    (h : (busTarget b.cfg b.cart a).isRam = true) (v : Byte) : (b.write a v).storeByte a = some v := by
  have hk := b.write_keeps a v
  unfold Bus.storeByte
  rw [hk.cfg, hk.cart, Bus.write_of_plain (Target.plain_of_isRam h) v]
  revert h
  generalize busTarget b.cfg b.cart a = t
  intro h
  cases t with
  | wram k => exact congrArg some (Memory.read_write_self w.wram_wf k v)
  | sram k => exact congrArg some (Memory.read_write_self w.sram_wf k v)
  | _ => simp [Target.isRam] at h

/-- The latch holds the byte a plain write drove (20_memory.md R97). -/
theorem Bus.write_latch {b : Bus} {a : Addr} (h : (busTarget b.cfg b.cart a).plain = true) (v : Byte) :
    (b.write a v).latch = v := by
  rw [Bus.write_of_plain h v]; rfl

end Sys2Proof.Machine
end

