-- ==== Sys2Proof/Laws/Dma.lean ====
section
/-! SUPPORT. What DMA and HDMA leave alone: the platform registers, the controllers, the NMI latch, and the channels they do not run (60_exceptions.md R438 to R441). -/
namespace Sys2Proof.Machine

/-- A target that a DMA unit can select on one of its buses: a store, or a B-bus register (20_memory.md R114). -/
def Target.dmaSide : Target → Bool
  | .serial _ => false
  | .platform _ => false
  | .dma _ _ => false
  | _ => true

theorem cartTarget_dmaSide (cfg : Config) (cart : Cartridge) (bank off : Nat) : (cartTarget cfg cart bank off).dmaSide = true := by
  unfold cartTarget
  split
  · unfold loRomTarget
    repeat' split
    all_goals rfl
  · unfold hiRomTarget
    repeat' split
    all_goals rfl

theorem aBusTarget_dmaSide (cfg : Config) (cart : Cartridge) (a : Addr) : (aBusTarget cfg cart a).dmaSide = true := by
  have hc := cartTarget_dmaSide cfg cart (bankOf a).toNat (offOf a).toNat
  unfold aBusTarget busTarget
  dsimp only
  split
  · rfl
  rename_i h
  split
  · rfl
  split
  · rename_i hs
    have h := fun k => h ⟨hs, k⟩
    repeat' split
    all_goals first
      | rfl
      | exact hc
      | (exfalso; apply h; omega)
  · exact hc

theorem bBusTarget_dmaSide (r : Byte) : (bBusTarget r).dmaSide = true := by
  unfold bBusTarget
  repeat' split
  all_goals rfl

/-- Everything of the bus that the accesses of a DMA unit leave alone. -/
structure Bus.DmaKeeps (b b' : Bus) : Prop where
  cfg : b'.cfg = b.cfg
  cart : b'.cart = b.cart
  plat : b'.plat = b.plat
  pads : b'.pads = b.pads
  dma : b'.dma = b.dma
  dmaPending : b'.dmaPending = b.dmaPending
  nmiPending : b'.nmiPending = b.nmiPending

theorem Bus.DmaKeeps.trans {b b' b'' : Bus} (h : b.DmaKeeps b') (h' : b'.DmaKeeps b'') : b.DmaKeeps b'' :=
  ⟨h'.cfg.trans h.cfg, h'.cart.trans h.cart, h'.plat.trans h.plat, h'.pads.trans h.pads, h'.dma.trans h.dma,
    h'.dmaPending.trans h.dmaPending, h'.nmiPending.trans h.nmiPending⟩

theorem Bus.readAt_dmaKeeps (b : Bus) (t : Target) (ht : t.dmaSide = true) : b.DmaKeeps (b.readAt t).bus := by
  cases t with
  | wramPort r =>
    simp only [Bus.readAt, Bus.readTarget]
    split <;> exact ⟨rfl, rfl, rfl, rfl, rfl, rfl, rfl⟩
  | serial q => cases ht
  | platform r => cases ht
  | dma c r => cases ht
  | _ => exact ⟨rfl, rfl, rfl, rfl, rfl, rfl, rfl⟩

theorem Bus.writeAt_dmaKeeps (b : Bus) (t : Target) (v : Byte) (ht : t.dmaSide = true) : b.DmaKeeps (b.writeAt t v) := by
  cases t with
  | wramPort r =>
    simp only [Bus.writeAt, Bus.writeTarget, Bus.writeWramPort]
    repeat' split
    all_goals exact ⟨rfl, rfl, rfl, rfl, rfl, rfl, rfl⟩
  | serial q => cases ht
  | platform r => cases ht
  | dma c r => cases ht
  | _ => exact ⟨rfl, rfl, rfl, rfl, rfl, rfl, rfl⟩

theorem Bus.readA_dmaKeeps (b : Bus) (a : Addr) : b.DmaKeeps (b.readA a).bus :=
  b.readAt_dmaKeeps _ (aBusTarget_dmaSide _ _ _)

/-- One byte moved between the buses leaves every register but those of the mailbox and the WRAM port. -/
theorem Bus.moveByte_dmaKeeps (b : Bus) (toA : Bool) (a : Addr) (r : Byte) : b.DmaKeeps (b.moveByte toA a r) := by
  unfold Bus.moveByte
  dsimp only
  split
  · exact (b.readAt_dmaKeeps _ (bBusTarget_dmaSide r)).trans (Bus.writeAt_dmaKeeps _ _ _ (aBusTarget_dmaSide _ _ _))
  · exact (b.readAt_dmaKeeps _ (aBusTarget_dmaSide _ _ _)).trans (Bus.writeAt_dmaKeeps _ _ _ (bBusTarget_dmaSide r))

/-! Channels as a table: reading after writing. -/

theorem channel_cases : ∀ c : BitVec 3, c = 0 ∨ c = 1 ∨ c = 2 ∨ c = 3 ∨ c = 4 ∨ c = 5 ∨ c = 6 ∨ c = 7 := by decide

theorem Eight.get_set_self {α : Type} (f : Eight α) (c : BitVec 3) (v : α) : (f.set c v).get c = v := by
  obtain rfl | rfl | rfl | rfl | rfl | rfl | rfl | rfl := channel_cases c <;> rfl

@[simp] theorem Eight.set_set {α : Type} (f : Eight α) (c : BitVec 3) (v w : α) : (f.set c v).set c w = f.set c w := by
  obtain rfl | rfl | rfl | rfl | rfl | rfl | rfl | rfl := channel_cases c <;> rfl

theorem Eight.get_set_other {α : Type} (f : Eight α) (c k : BitVec 3) (v : α) (h : k ≠ c) : (f.set c v).get k = f.get k := by
  obtain rfl | rfl | rfl | rfl | rfl | rfl | rfl | rfl := channel_cases c <;>
    obtain rfl | rfl | rfl | rfl | rfl | rfl | rfl | rfl := channel_cases k <;>
      first
        | rfl
        | exact absurd rfl h

/-- Everything that a unit working on the channels leaves alone, the channels apart. -/
structure Bus.ChannelKeeps (b b' : Bus) : Prop where
  cfg : b'.cfg = b.cfg
  cart : b'.cart = b.cart
  plat : b'.plat = b.plat
  pads : b'.pads = b.pads
  dmaPending : b'.dmaPending = b.dmaPending
  nmiPending : b'.nmiPending = b.nmiPending

theorem Bus.ChannelKeeps.refl (b : Bus) : b.ChannelKeeps b := ⟨rfl, rfl, rfl, rfl, rfl, rfl⟩

theorem Bus.ChannelKeeps.trans {b b' b'' : Bus} (h : b.ChannelKeeps b') (h' : b'.ChannelKeeps b'') : b.ChannelKeeps b'' :=
  ⟨h'.cfg.trans h.cfg, h'.cart.trans h.cart, h'.plat.trans h.plat, h'.pads.trans h.pads, h'.dmaPending.trans h.dmaPending,
    h'.nmiPending.trans h.nmiPending⟩

theorem Bus.DmaKeeps.channel {b b' : Bus} (h : b.DmaKeeps b') : b.ChannelKeeps b' :=
  ⟨h.cfg, h.cart, h.plat, h.pads, h.dmaPending, h.nmiPending⟩

theorem Bus.withChannel_channelKeeps (b : Bus) (c : BitVec 3) (ch : Channel) : b.ChannelKeeps (b.withChannel c ch) :=
  ⟨rfl, rfl, rfl, rfl, rfl, rfl⟩

/-- A fold of a unit over the channels keeps what each of its steps keeps. -/
theorem Bus.ChannelKeeps.foldl {α : Type} {f : Bus → α → Bus} (hf : ∀ (b : Bus) (x : α), b.ChannelKeeps (f b x)) :
    ∀ (l : List α) (b : Bus), b.ChannelKeeps (l.foldl f b)
  | [], b => .refl b
  | x :: l, b => (hf b x).trans (Bus.ChannelKeeps.foldl hf l (f b x))

theorem Bus.dmaByte_channelKeeps (c : BitVec 3) (n : Nat) (b : Bus) : b.ChannelKeeps (b.dmaByte c n) :=
  (b.moveByte_dmaKeeps _ _ _).channel.trans (Bus.withChannel_channelKeeps _ _ _)

theorem Bus.dmaLoop_channelKeeps (c : BitVec 3) : ∀ (k n : Nat) (b : Bus), b.ChannelKeeps (Bus.dmaLoop c k n b)
  | 0, _, b => .refl b
  | k + 1, n, b => (b.dmaByte_channelKeeps c n).trans (Bus.dmaLoop_channelKeeps c k (n + 1) _)

theorem Bus.runDma_channelKeeps (b : Bus) (c : BitVec 3) : b.ChannelKeeps (b.runDma c) := Bus.dmaLoop_channelKeeps c _ _ _

theorem Bus.runDmaMask_channelKeeps (b : Bus) (mask : Byte) : b.ChannelKeeps (b.runDmaMask mask) := by
  apply Bus.ChannelKeeps.foldl
  intro b c
  split
  · exact b.runDma_channelKeeps c
  · exact .refl b

theorem Bus.runDmaMasks_channelKeeps (l : List Byte) (b : Bus) : b.ChannelKeeps (l.foldl Bus.runDmaMask b) :=
  Bus.ChannelKeeps.foldl Bus.runDmaMask_channelKeeps _ _

theorem Bus.hdmaPointer_channelKeeps (c : BitVec 3) (b : Bus) : b.ChannelKeeps (b.hdmaPointer c) :=
  ((b.readA_dmaKeeps _).trans (Bus.readA_dmaKeeps _ _)).channel.trans (Bus.withChannel_channelKeeps _ _ _)

theorem Bus.hdmaHeader_channelKeeps (c : BitVec 3) (init : Bool) (b : Bus) : b.ChannelKeeps (b.hdmaHeader c init) := by
  unfold Bus.hdmaHeader
  dsimp only
  split
  · exact ((b.readA_dmaKeeps _).channel.trans (Bus.withChannel_channelKeeps _ _ _)).trans (Bus.hdmaPointer_channelKeeps _ _)
  · exact (b.readA_dmaKeeps _).channel.trans (Bus.withChannel_channelKeeps _ _ _)

theorem Bus.hdmaInit_channelKeeps (c : BitVec 3) (b : Bus) : b.ChannelKeeps (b.hdmaInit c) :=
  (b.withChannel_channelKeeps c _).trans (Bus.hdmaHeader_channelKeeps _ _ _)

theorem Bus.hdmaInitMask_channelKeeps (b : Bus) (mask : Byte) : b.ChannelKeeps (b.hdmaInitMask mask) := by
  apply Bus.ChannelKeeps.foldl
  intro b c
  split
  · exact b.hdmaInit_channelKeeps c
  · exact .refl b

theorem Bus.hdmaByte_channelKeeps (c : BitVec 3) (b : Bus) (off : Byte) : b.ChannelKeeps (b.hdmaByte c off) := by
  unfold Bus.hdmaByte
  dsimp only
  split <;> exact (b.moveByte_dmaKeeps _ _ _).channel.trans (Bus.withChannel_channelKeeps _ _ _)

theorem Bus.hdmaLine_channelKeeps (c : BitVec 3) (b : Bus) : b.ChannelKeeps (b.hdmaLine c) := by
  have h : b.ChannelKeeps (if (b.dma.get c).doTransfer then b.hdmaUnit c else b) := by
    split
    · exact Bus.ChannelKeeps.foldl (Bus.hdmaByte_channelKeeps c) _ _
    · exact .refl b
  unfold Bus.hdmaLine
  dsimp only
  generalize (if (b.dma.get c).doTransfer then b.hdmaUnit c else b) = b1 at h ⊢
  split
  · exact (h.trans (Bus.withChannel_channelKeeps _ _ _)).trans (Bus.hdmaHeader_channelKeeps _ _ _)
  · exact h.trans (Bus.withChannel_channelKeeps _ _ _)

theorem Bus.hdmaLines_channelKeeps (b : Bus) : b.ChannelKeeps b.hdmaLines := by
  apply Bus.ChannelKeeps.foldl
  intro b c
  split
  · exact b.hdmaLine_channelKeeps c
  · exact .refl b

/-- The DMA/HDMA phase of a scanline leaves the platform registers, the controllers and the NMI latch. -/
theorem Bus.dmaPhase_plat (b : Bus) (y : Nat) :
    (b.dmaPhase y).plat = b.plat ∧ (b.dmaPhase y).pads = b.pads ∧ (b.dmaPhase y).nmiPending = b.nmiPending ∧
    (b.dmaPhase y).cfg = b.cfg ∧ (b.dmaPhase y).cart = b.cart := by
  have h1 : b.runPending.plat = b.plat ∧ b.runPending.pads = b.pads ∧ b.runPending.nmiPending = b.nmiPending ∧
      b.runPending.cfg = b.cfg ∧ b.runPending.cart = b.cart := by
    unfold Bus.runPending
    split
    · exact ⟨rfl, rfl, rfl, rfl, rfl⟩
    · have k := Bus.runDmaMasks_channelKeeps b.dmaPending { b with dmaPending := [] }
      exact ⟨k.plat, k.pads, k.nmiPending, k.cfg, k.cart⟩
  have h2 : ∀ b1 : Bus, b1.ChannelKeeps (if b1.cfg.hdmaFrameReinit && y == 0 then b1.hdmaInitMask b1.plat.hdmaen else b1) := by
    intro b1
    split
    · exact b1.hdmaInitMask_channelKeeps _
    · exact .refl b1
  unfold Bus.dmaPhase
  dsimp only
  split
  · have k := (h2 b.runPending).trans (Bus.hdmaLines_channelKeeps _)
    exact ⟨k.plat.trans h1.1, k.pads.trans h1.2.1, k.nmiPending.trans h1.2.2.1, k.cfg.trans h1.2.2.2.1, k.cart.trans h1.2.2.2.2⟩
  · exact h1

end Sys2Proof.Machine
end

