-- ==== Sys2Proof/Laws/State.lean ====
section
/-! SUPPORT. One lemma per field per update of the state and of the processor's registers. -/
namespace Sys2Proof.Machine

@[simp] theorem State.withCpu_cpu (s : State) (c : Cpu) : (s.withCpu c).cpu = c := rfl

@[simp] theorem State.withCpu_bus (s : State) (c : Cpu) : (s.withCpu c).bus = s.bus := rfl

@[simp] theorem State.withCpu_resetRequest (s : State) (c : Cpu) : (s.withCpu c).resetRequest = s.resetRequest := rfl

@[simp] theorem State.withCpu_frame (s : State) (c : Cpu) : (s.withCpu c).frame = s.frame := rfl

@[simp] theorem State.withBus_cpu (s : State) (b : Bus) : (s.withBus b).cpu = s.cpu := rfl

@[simp] theorem State.withBus_bus (s : State) (b : Bus) : (s.withBus b).bus = b := rfl

@[simp] theorem State.withBus_resetRequest (s : State) (b : Bus) : (s.withBus b).resetRequest = s.resetRequest := rfl

@[simp] theorem State.withBus_frame (s : State) (b : Bus) : (s.withBus b).frame = s.frame := rfl

@[simp] theorem State.withCpu_self (s : State) : s.withCpu s.cpu = s := rfl

@[simp] theorem State.withBus_self (s : State) : s.withBus s.bus = s := rfl

@[simp] theorem State.withCpu_withCpu (s : State) (c d : Cpu) : (s.withCpu c).withCpu d = s.withCpu d := rfl

@[simp] theorem State.withBus_withBus (s : State) (b c : Bus) : (s.withBus b).withBus c = s.withBus c := rfl

/-- Bus updates first, register updates last: the normal form. -/
@[simp] theorem State.withCpu_withBus (s : State) (c : Cpu) (b : Bus) : (s.withCpu c).withBus b = (s.withBus b).withCpu c := rfl

@[simp] theorem State.withRun_cpu (s : State) (r : RunState) : (s.withRun r).cpu = { s.cpu with run := r } := rfl

@[simp] theorem State.withRun_bus (s : State) (r : RunState) : (s.withRun r).bus = s.bus := rfl

@[simp] theorem State.withRun_resetRequest (s : State) (r : RunState) : (s.withRun r).resetRequest = s.resetRequest := rfl

@[simp] theorem State.withRun_frame (s : State) (r : RunState) : (s.withRun r).frame = s.frame := rfl

@[simp] theorem State.ackNmi_cpu (s : State) : s.ackNmi.cpu = s.cpu := rfl

@[simp] theorem State.ackNmi_bus (s : State) : s.ackNmi.bus = { s.bus with nmiPending := false } := rfl

@[simp] theorem State.ackNmi_resetRequest (s : State) : s.ackNmi.resetRequest = s.resetRequest := rfl

@[simp] theorem State.ackNmi_frame (s : State) : s.ackNmi.frame = s.frame := rfl

@[simp] theorem State.jump_cpu (s : State) (v : Word) : (s.jump v).cpu = { s.cpu with pc := v } := rfl

@[simp] theorem State.jump_bus (s : State) (v : Word) : (s.jump v).bus = s.bus := rfl

@[simp] theorem State.jump_resetRequest (s : State) (v : Word) : (s.jump v).resetRequest = s.resetRequest := rfl

@[simp] theorem State.jump_frame (s : State) (v : Word) : (s.jump v).frame = s.frame := rfl

@[simp] theorem State.jumpLong_cpu (s : State) (a : Addr) : (s.jumpLong a).cpu = { s.cpu with pb := bankOf a, pc := offOf a } := rfl

@[simp] theorem State.jumpLong_bus (s : State) (a : Addr) : (s.jumpLong a).bus = s.bus := rfl

@[simp] theorem State.jumpLong_resetRequest (s : State) (a : Addr) : (s.jumpLong a).resetRequest = s.resetRequest := rfl

@[simp] theorem State.jumpLong_frame (s : State) (a : Addr) : (s.jumpLong a).frame = s.frame := rfl

@[simp] theorem Cpu.setFlag_a (c : Cpu) (f : Flag) (b : Bool) : (c.setFlag f b).a = c.a := rfl

@[simp] theorem Cpu.setFlag_x (c : Cpu) (f : Flag) (b : Bool) : (c.setFlag f b).x = c.x := rfl

@[simp] theorem Cpu.setFlag_y (c : Cpu) (f : Flag) (b : Bool) : (c.setFlag f b).y = c.y := rfl

@[simp] theorem Cpu.setFlag_s (c : Cpu) (f : Flag) (b : Bool) : (c.setFlag f b).s = c.s := rfl

@[simp] theorem Cpu.setFlag_d (c : Cpu) (f : Flag) (b : Bool) : (c.setFlag f b).d = c.d := rfl

@[simp] theorem Cpu.setFlag_db (c : Cpu) (f : Flag) (b : Bool) : (c.setFlag f b).db = c.db := rfl

@[simp] theorem Cpu.setFlag_pb (c : Cpu) (f : Flag) (b : Bool) : (c.setFlag f b).pb = c.pb := rfl

@[simp] theorem Cpu.setFlag_pc (c : Cpu) (f : Flag) (b : Bool) : (c.setFlag f b).pc = c.pc := rfl

@[simp] theorem Cpu.setFlag_p (c : Cpu) (f : Flag) (b : Bool) : (c.setFlag f b).p = withFlag c.p f b := rfl

@[simp] theorem Cpu.setFlag_e (c : Cpu) (f : Flag) (b : Bool) : (c.setFlag f b).e = c.e := rfl

@[simp] theorem Cpu.setFlag_run (c : Cpu) (f : Flag) (b : Bool) : (c.setFlag f b).run = c.run := rfl

@[simp] theorem Cpu.setFlag_moves (c : Cpu) (f : Flag) (b : Bool) : (c.setFlag f b).moves = c.moves := rfl

@[simp] theorem Cpu.setAcc_a (c : Cpu) (v : Word) : (c.setAcc v).a = c.m.merge c.a v := rfl

@[simp] theorem Cpu.setAcc_x (c : Cpu) (v : Word) : (c.setAcc v).x = c.x := rfl

@[simp] theorem Cpu.setAcc_y (c : Cpu) (v : Word) : (c.setAcc v).y = c.y := rfl

@[simp] theorem Cpu.setAcc_s (c : Cpu) (v : Word) : (c.setAcc v).s = c.s := rfl

@[simp] theorem Cpu.setAcc_d (c : Cpu) (v : Word) : (c.setAcc v).d = c.d := rfl

@[simp] theorem Cpu.setAcc_db (c : Cpu) (v : Word) : (c.setAcc v).db = c.db := rfl

@[simp] theorem Cpu.setAcc_pb (c : Cpu) (v : Word) : (c.setAcc v).pb = c.pb := rfl

@[simp] theorem Cpu.setAcc_pc (c : Cpu) (v : Word) : (c.setAcc v).pc = c.pc := rfl

@[simp] theorem Cpu.setAcc_p (c : Cpu) (v : Word) : (c.setAcc v).p = c.p := rfl

@[simp] theorem Cpu.setAcc_e (c : Cpu) (v : Word) : (c.setAcc v).e = c.e := rfl

@[simp] theorem Cpu.setAcc_run (c : Cpu) (v : Word) : (c.setAcc v).run = c.run := rfl

@[simp] theorem Cpu.setAcc_moves (c : Cpu) (v : Word) : (c.setAcc v).moves = c.moves := rfl

@[simp] theorem Cpu.setX_a (c : Cpu) (v : Word) : (c.setX v).a = c.a := rfl

@[simp] theorem Cpu.setX_x (c : Cpu) (v : Word) : (c.setX v).x = c.xw.merge c.x v := rfl

@[simp] theorem Cpu.setX_y (c : Cpu) (v : Word) : (c.setX v).y = c.y := rfl

@[simp] theorem Cpu.setX_s (c : Cpu) (v : Word) : (c.setX v).s = c.s := rfl

@[simp] theorem Cpu.setX_d (c : Cpu) (v : Word) : (c.setX v).d = c.d := rfl

@[simp] theorem Cpu.setX_db (c : Cpu) (v : Word) : (c.setX v).db = c.db := rfl

@[simp] theorem Cpu.setX_pb (c : Cpu) (v : Word) : (c.setX v).pb = c.pb := rfl

@[simp] theorem Cpu.setX_pc (c : Cpu) (v : Word) : (c.setX v).pc = c.pc := rfl

@[simp] theorem Cpu.setX_p (c : Cpu) (v : Word) : (c.setX v).p = c.p := rfl

@[simp] theorem Cpu.setX_e (c : Cpu) (v : Word) : (c.setX v).e = c.e := rfl

@[simp] theorem Cpu.setX_run (c : Cpu) (v : Word) : (c.setX v).run = c.run := rfl

@[simp] theorem Cpu.setX_moves (c : Cpu) (v : Word) : (c.setX v).moves = c.moves := rfl

@[simp] theorem Cpu.setY_a (c : Cpu) (v : Word) : (c.setY v).a = c.a := rfl

@[simp] theorem Cpu.setY_x (c : Cpu) (v : Word) : (c.setY v).x = c.x := rfl

@[simp] theorem Cpu.setY_y (c : Cpu) (v : Word) : (c.setY v).y = c.xw.merge c.y v := rfl

@[simp] theorem Cpu.setY_s (c : Cpu) (v : Word) : (c.setY v).s = c.s := rfl

@[simp] theorem Cpu.setY_d (c : Cpu) (v : Word) : (c.setY v).d = c.d := rfl

@[simp] theorem Cpu.setY_db (c : Cpu) (v : Word) : (c.setY v).db = c.db := rfl

@[simp] theorem Cpu.setY_pb (c : Cpu) (v : Word) : (c.setY v).pb = c.pb := rfl

@[simp] theorem Cpu.setY_pc (c : Cpu) (v : Word) : (c.setY v).pc = c.pc := rfl

@[simp] theorem Cpu.setY_p (c : Cpu) (v : Word) : (c.setY v).p = c.p := rfl

@[simp] theorem Cpu.setY_e (c : Cpu) (v : Word) : (c.setY v).e = c.e := rfl

@[simp] theorem Cpu.setY_run (c : Cpu) (v : Word) : (c.setY v).run = c.run := rfl

@[simp] theorem Cpu.setY_moves (c : Cpu) (v : Word) : (c.setY v).moves = c.moves := rfl

@[simp] theorem Cpu.setNZ_a (c : Cpu) (w : Width) (v : Word) : (c.setNZ w v).a = c.a := rfl

@[simp] theorem Cpu.setNZ_x (c : Cpu) (w : Width) (v : Word) : (c.setNZ w v).x = c.x := rfl

@[simp] theorem Cpu.setNZ_y (c : Cpu) (w : Width) (v : Word) : (c.setNZ w v).y = c.y := rfl

@[simp] theorem Cpu.setNZ_s (c : Cpu) (w : Width) (v : Word) : (c.setNZ w v).s = c.s := rfl

@[simp] theorem Cpu.setNZ_d (c : Cpu) (w : Width) (v : Word) : (c.setNZ w v).d = c.d := rfl

@[simp] theorem Cpu.setNZ_db (c : Cpu) (w : Width) (v : Word) : (c.setNZ w v).db = c.db := rfl

@[simp] theorem Cpu.setNZ_pb (c : Cpu) (w : Width) (v : Word) : (c.setNZ w v).pb = c.pb := rfl

@[simp] theorem Cpu.setNZ_pc (c : Cpu) (w : Width) (v : Word) : (c.setNZ w v).pc = c.pc := rfl

@[simp] theorem Cpu.setNZ_p (c : Cpu) (w : Width) (v : Word) : (c.setNZ w v).p = Machine.setNZ w v c.p := rfl

@[simp] theorem Cpu.setNZ_e (c : Cpu) (w : Width) (v : Word) : (c.setNZ w v).e = c.e := rfl

@[simp] theorem Cpu.setNZ_run (c : Cpu) (w : Width) (v : Word) : (c.setNZ w v).run = c.run := rfl

@[simp] theorem Cpu.setNZ_moves (c : Cpu) (w : Width) (v : Word) : (c.setNZ w v).moves = c.moves := rfl

@[simp] theorem Cpu.setSL_a (c : Cpu) (v : Byte) : (c.setSL v).a = c.a := rfl

@[simp] theorem Cpu.setSL_x (c : Cpu) (v : Byte) : (c.setSL v).x = c.x := rfl

@[simp] theorem Cpu.setSL_y (c : Cpu) (v : Byte) : (c.setSL v).y = c.y := rfl

@[simp] theorem Cpu.setSL_s (c : Cpu) (v : Byte) : (c.setSL v).s = mkWord (hiByte c.s) v := rfl

@[simp] theorem Cpu.setSL_d (c : Cpu) (v : Byte) : (c.setSL v).d = c.d := rfl

@[simp] theorem Cpu.setSL_db (c : Cpu) (v : Byte) : (c.setSL v).db = c.db := rfl

@[simp] theorem Cpu.setSL_pb (c : Cpu) (v : Byte) : (c.setSL v).pb = c.pb := rfl

@[simp] theorem Cpu.setSL_pc (c : Cpu) (v : Byte) : (c.setSL v).pc = c.pc := rfl

@[simp] theorem Cpu.setSL_p (c : Cpu) (v : Byte) : (c.setSL v).p = c.p := rfl

@[simp] theorem Cpu.setSL_e (c : Cpu) (v : Byte) : (c.setSL v).e = c.e := rfl

@[simp] theorem Cpu.setSL_run (c : Cpu) (v : Byte) : (c.setSL v).run = c.run := rfl

@[simp] theorem Cpu.setSL_moves (c : Cpu) (v : Byte) : (c.setSL v).moves = c.moves := rfl

@[simp] theorem Cpu.clearXY_a (c : Cpu) : c.clearXY.a = c.a := rfl

@[simp] theorem Cpu.clearXY_x (c : Cpu) : c.clearXY.x = zext (loByte c.x) := rfl

@[simp] theorem Cpu.clearXY_y (c : Cpu) : c.clearXY.y = zext (loByte c.y) := rfl

@[simp] theorem Cpu.clearXY_s (c : Cpu) : c.clearXY.s = c.s := rfl

@[simp] theorem Cpu.clearXY_d (c : Cpu) : c.clearXY.d = c.d := rfl

@[simp] theorem Cpu.clearXY_db (c : Cpu) : c.clearXY.db = c.db := rfl

@[simp] theorem Cpu.clearXY_pb (c : Cpu) : c.clearXY.pb = c.pb := rfl

@[simp] theorem Cpu.clearXY_pc (c : Cpu) : c.clearXY.pc = c.pc := rfl

@[simp] theorem Cpu.clearXY_p (c : Cpu) : c.clearXY.p = c.p := rfl

@[simp] theorem Cpu.clearXY_e (c : Cpu) : c.clearXY.e = c.e := rfl

@[simp] theorem Cpu.clearXY_run (c : Cpu) : c.clearXY.run = c.run := rfl

@[simp] theorem Cpu.clearXY_moves (c : Cpu) : c.clearXY.moves = c.moves := rfl

@[simp] theorem Cpu.forceEmulation_a (c : Cpu) : c.forceEmulation.a = c.a := rfl

@[simp] theorem Cpu.forceEmulation_x (c : Cpu) : c.forceEmulation.x = zext (loByte c.x) := rfl

@[simp] theorem Cpu.forceEmulation_y (c : Cpu) : c.forceEmulation.y = zext (loByte c.y) := rfl

@[simp] theorem Cpu.forceEmulation_s (c : Cpu) : c.forceEmulation.s = mkWord 0x01 (loByte c.s) := rfl

@[simp] theorem Cpu.forceEmulation_d (c : Cpu) : c.forceEmulation.d = c.d := rfl

@[simp] theorem Cpu.forceEmulation_db (c : Cpu) : c.forceEmulation.db = c.db := rfl

@[simp] theorem Cpu.forceEmulation_pb (c : Cpu) : c.forceEmulation.pb = c.pb := rfl

@[simp] theorem Cpu.forceEmulation_pc (c : Cpu) : c.forceEmulation.pc = c.pc := rfl

@[simp] theorem Cpu.forceEmulation_p (c : Cpu) : c.forceEmulation.p = withFlag (withFlag c.p .m true) .x true := rfl

@[simp] theorem Cpu.forceEmulation_e (c : Cpu) : c.forceEmulation.e = c.e := rfl

@[simp] theorem Cpu.forceEmulation_run (c : Cpu) : c.forceEmulation.run = c.run := rfl

@[simp] theorem Cpu.forceEmulation_moves (c : Cpu) : c.forceEmulation.moves = c.moves := rfl

@[simp] theorem Cpu.setP_a (c : Cpu) (v : Byte) : (c.setP v).a = c.a := by
  unfold Cpu.setP; dsimp only; split <;> split <;> rfl

@[simp] theorem Cpu.setP_s (c : Cpu) (v : Byte) : (c.setP v).s = c.s := by
  unfold Cpu.setP; dsimp only; split <;> split <;> rfl

@[simp] theorem Cpu.setP_d (c : Cpu) (v : Byte) : (c.setP v).d = c.d := by
  unfold Cpu.setP; dsimp only; split <;> split <;> rfl

@[simp] theorem Cpu.setP_db (c : Cpu) (v : Byte) : (c.setP v).db = c.db := by
  unfold Cpu.setP; dsimp only; split <;> split <;> rfl

@[simp] theorem Cpu.setP_pb (c : Cpu) (v : Byte) : (c.setP v).pb = c.pb := by
  unfold Cpu.setP; dsimp only; split <;> split <;> rfl

@[simp] theorem Cpu.setP_pc (c : Cpu) (v : Byte) : (c.setP v).pc = c.pc := by
  unfold Cpu.setP; dsimp only; split <;> split <;> rfl

@[simp] theorem Cpu.setP_e (c : Cpu) (v : Byte) : (c.setP v).e = c.e := by
  unfold Cpu.setP; dsimp only; split <;> split <;> rfl

@[simp] theorem Cpu.setP_run (c : Cpu) (v : Byte) : (c.setP v).run = c.run := by
  unfold Cpu.setP; dsimp only; split <;> split <;> rfl

@[simp] theorem Cpu.setP_moves (c : Cpu) (v : Byte) : (c.setP v).moves = c.moves := by
  unfold Cpu.setP; dsimp only; split <;> split <;> rfl

@[simp] theorem Cpu.pushed_a (c : Cpu) (nw : Bool) : (c.pushed nw).a = c.a := by
  unfold Cpu.pushed; split <;> rfl

@[simp] theorem Cpu.pushed_x (c : Cpu) (nw : Bool) : (c.pushed nw).x = c.x := by
  unfold Cpu.pushed; split <;> rfl

@[simp] theorem Cpu.pushed_y (c : Cpu) (nw : Bool) : (c.pushed nw).y = c.y := by
  unfold Cpu.pushed; split <;> rfl

@[simp] theorem Cpu.pushed_d (c : Cpu) (nw : Bool) : (c.pushed nw).d = c.d := by
  unfold Cpu.pushed; split <;> rfl

@[simp] theorem Cpu.pushed_db (c : Cpu) (nw : Bool) : (c.pushed nw).db = c.db := by
  unfold Cpu.pushed; split <;> rfl

@[simp] theorem Cpu.pushed_pb (c : Cpu) (nw : Bool) : (c.pushed nw).pb = c.pb := by
  unfold Cpu.pushed; split <;> rfl

@[simp] theorem Cpu.pushed_pc (c : Cpu) (nw : Bool) : (c.pushed nw).pc = c.pc := by
  unfold Cpu.pushed; split <;> rfl

@[simp] theorem Cpu.pushed_p (c : Cpu) (nw : Bool) : (c.pushed nw).p = c.p := by
  unfold Cpu.pushed; split <;> rfl

@[simp] theorem Cpu.pushed_e (c : Cpu) (nw : Bool) : (c.pushed nw).e = c.e := by
  unfold Cpu.pushed; split <;> rfl

@[simp] theorem Cpu.pushed_run (c : Cpu) (nw : Bool) : (c.pushed nw).run = c.run := by
  unfold Cpu.pushed; split <;> rfl

@[simp] theorem Cpu.pushed_moves (c : Cpu) (nw : Bool) : (c.pushed nw).moves = c.moves := by
  unfold Cpu.pushed; split <;> rfl

@[simp] theorem Cpu.pulled_a (c : Cpu) (nw : Bool) : (c.pulled nw).a = c.a := by
  unfold Cpu.pulled; split <;> rfl

@[simp] theorem Cpu.pulled_x (c : Cpu) (nw : Bool) : (c.pulled nw).x = c.x := by
  unfold Cpu.pulled; split <;> rfl

@[simp] theorem Cpu.pulled_y (c : Cpu) (nw : Bool) : (c.pulled nw).y = c.y := by
  unfold Cpu.pulled; split <;> rfl

@[simp] theorem Cpu.pulled_d (c : Cpu) (nw : Bool) : (c.pulled nw).d = c.d := by
  unfold Cpu.pulled; split <;> rfl

@[simp] theorem Cpu.pulled_db (c : Cpu) (nw : Bool) : (c.pulled nw).db = c.db := by
  unfold Cpu.pulled; split <;> rfl

@[simp] theorem Cpu.pulled_pb (c : Cpu) (nw : Bool) : (c.pulled nw).pb = c.pb := by
  unfold Cpu.pulled; split <;> rfl

@[simp] theorem Cpu.pulled_pc (c : Cpu) (nw : Bool) : (c.pulled nw).pc = c.pc := by
  unfold Cpu.pulled; split <;> rfl

@[simp] theorem Cpu.pulled_p (c : Cpu) (nw : Bool) : (c.pulled nw).p = c.p := by
  unfold Cpu.pulled; split <;> rfl

@[simp] theorem Cpu.pulled_e (c : Cpu) (nw : Bool) : (c.pulled nw).e = c.e := by
  unfold Cpu.pulled; split <;> rfl

@[simp] theorem Cpu.pulled_run (c : Cpu) (nw : Bool) : (c.pulled nw).run = c.run := by
  unfold Cpu.pulled; split <;> rfl

@[simp] theorem Cpu.pulled_moves (c : Cpu) (nw : Bool) : (c.pulled nw).moves = c.moves := by
  unfold Cpu.pulled; split <;> rfl

theorem Cpu.setP_p (c : Cpu) (v : Byte) :
    (c.setP v).p = if c.e then withFlag (withFlag v .m true) .x true else v := by
  unfold Cpu.setP; dsimp only; split <;> split <;> rfl

theorem Cpu.pushed_s (c : Cpu) (nw : Bool) :
    (c.pushed nw).s = if c.e && !nw then mkWord (hiByte c.s) (loByte c.s - 1) else c.s - 1 := by
  unfold Cpu.pushed; split <;> simp

theorem Cpu.pulled_s (c : Cpu) (nw : Bool) :
    (c.pulled nw).s = if c.e && !nw then mkWord (hiByte c.s) (loByte c.s + 1) else c.s + 1 := by
  unfold Cpu.pulled; split <;> simp

end Sys2Proof.Machine
end

