-- ==== Sys2Proof/Laws/Ops.lean ====
section
/-! SUPPORT. Laws of the shared operations: what reads, effective addresses, stores, the stack, interrupts and reset can change. -/
namespace Sys2Proof.Machine

/-- Everything a run of processor reads can change: the bus, as `Bus.Reads` says. -/
def State.Reads (s t : State) : Prop := t = s.withBus t.bus ∧ s.bus.Reads t.bus

namespace State.Reads
variable {s t u : State}

theorem refl (s : State) : s.Reads s := ⟨rfl, .refl _⟩

theorem cpu (h : s.Reads t) : t.cpu = s.cpu := by rw [h.1]; rfl
theorem frame (h : s.Reads t) : t.frame = s.frame := by rw [h.1]; rfl
theorem resetRequest (h : s.Reads t) : t.resetRequest = s.resetRequest := by rw [h.1]; rfl
theorem bus (h : s.Reads t) : s.bus.Reads t.bus := h.2

theorem trans (h : s.Reads t) (h' : t.Reads u) : s.Reads u := by
  refine ⟨?_, h.2.trans h'.2⟩
  have h1 := h.1
  have h2 := h'.1
  rw [h1] at h2
  exact h2

theorem storeByte (h : s.Reads t) (a : Addr) : t.bus.storeByte a = s.bus.storeByte a := h.2.storeByte a

/-- Reads move no locator. -/
theorem addrOf (h : s.Reads t) (l : Loc) (i : Nat) : t.addrOf l i = s.addrOf l i := by
  unfold State.addrOf; rw [h.cpu, h.2.cfg]

end State.Reads

theorem State.readByte_reads (s : State) (a : Addr) : s.Reads (s.readByte a).st := ⟨rfl, s.bus.read_reads a⟩

theorem State.load16_reads (s : State) (l : Loc) : s.Reads (s.load16 l).st :=
  (s.readByte_reads _).trans (State.readByte_reads _ _)

theorem State.load24_reads (s : State) (l : Loc) : s.Reads (s.load24 l).st :=
  (s.load16_reads l).trans (State.readByte_reads _ _)

theorem State.load_reads (s : State) (w : Width) (l : Loc) : s.Reads (s.load w l).st := by
  cases w with
  | b8 => exact s.readByte_reads _
  | b16 => exact s.load16_reads l

/-- Forming an effective address reads only (40_addressing.md R173 to R188). -/
theorem State.ea_reads (s : State) (mode : MemMode) : s.Reads (s.ea mode).st := by
  cases mode with
  | dpInd dp => exact s.load16_reads (.dir (zext dp))
  | dpXInd dp => exact s.load16_reads (.dir (zext dp + s.cpu.x))
  | dpIndY dp => exact s.load16_reads (.dir (zext dp))
  | dpIndLong dp => exact s.load24_reads (.dirN (zext dp))
  | dpIndLongY dp => exact s.load24_reads (.dirN (zext dp))
  | srIndY sr => exact s.load16_reads (.bank0 (s.cpu.s + zext sr))
  | _ => exact .refl s

/-- Reading an operand reads only (40_addressing.md R194). -/
theorem State.operand_reads (s : State) (w : Width) (mode : Mode) : s.Reads (s.operand w mode).st := by
  cases mode with
  | imm v => exact .refl s
  | mem mm => exact (s.ea_reads mm).trans (State.load_reads _ _ _)

/-- A byte read at 8 bits has nothing above bit 7. -/
theorem State.load_trunc (s : State) (w : Width) (l : Loc) : w.trunc (s.load w l).v = (s.load w l).v := by
  cases w <;> simp [State.load]

theorem State.operand_trunc (s : State) (w : Width) (mode : Mode) : w.trunc (s.operand w mode).v = (s.operand w mode).v := by
  cases mode with
  | imm v => exact Width.trunc_trunc w v
  | mem mm => exact State.load_trunc _ w _

/-- A read of a store byte returns it and changes the latch only. -/
theorem State.readByte_of_storeByte {s : State} {a : Addr} {v : Byte} (h : s.bus.storeByte a = some v) :
    s.readByte a = { v := v, st := s.withBus { s.bus with latch := v } } := by
  unfold State.readByte; rw [Bus.read_of_storeByte h]

theorem Bus.storeByte_latch (b : Bus) (v : Byte) (a : Addr) : ({ b with latch := v } : Bus).storeByte a = b.storeByte a := rfl

theorem State.load8_of_storeByte {s : State} {l : Loc} {v : Byte} (h : s.bus.storeByte (s.addrOf l 0) = some v) :
    s.load .b8 l = { v := zext v, st := s.withBus { s.bus with latch := v } } := by
  unfold State.load; dsimp only; rw [State.readByte_of_storeByte h]

/-- `Load(loc, 16)` of two store bytes (40_addressing.md R194). -/
theorem State.load16_of_storeByte {s : State} {l : Loc} {lo hi : Byte} (h0 : s.bus.storeByte (s.addrOf l 0) = some lo)
    (h1 : s.bus.storeByte (s.addrOf l 1) = some hi) :
    s.load16 l = { v := mkWord hi lo, st := s.withBus { s.bus with latch := hi } } := by
  unfold State.load16; dsimp only
  rw [State.readByte_of_storeByte h0]
  dsimp only
  rw [State.readByte_of_storeByte (s := s.withBus { s.bus with latch := lo }) (v := hi) h1]
  rfl

/-- `Load(loc, 24)` of three store bytes (40_addressing.md R194). -/
theorem State.load24_of_storeByte {s : State} {l : Loc} {lo hi bk : Byte} (h0 : s.bus.storeByte (s.addrOf l 0) = some lo)
    (h1 : s.bus.storeByte (s.addrOf l 1) = some hi) (h2 : s.bus.storeByte (s.addrOf l 2) = some bk) :
    s.load24 l = { v := mkAddr bk (mkWord hi lo), st := s.withBus { s.bus with latch := bk } } := by
  unfold State.load24; dsimp only
  rw [State.load16_of_storeByte h0 h1]
  dsimp only
  rw [State.readByte_of_storeByte (s := s.withBus { s.bus with latch := hi }) (v := bk) h2]
  rfl

/-- What every operation of the processor keeps: the frame and reset request, and of the bus what `Bus.Keeps` says. -/
structure State.Keeps (s t : State) : Prop where
  frame : t.frame = s.frame
  resetRequest : t.resetRequest = s.resetRequest
  bus : s.bus.Keeps t.bus

namespace State.Keeps
variable {s t u : State}

theorem refl (s : State) : s.Keeps s := ⟨rfl, rfl, .refl _⟩

theorem trans (h : s.Keeps t) (h' : t.Keeps u) : s.Keeps u :=
  ⟨h'.frame.trans h.frame, h'.resetRequest.trans h.resetRequest, h.bus.trans h'.bus⟩

theorem withCpu (h : s.Keeps t) (c : Cpu) : s.Keeps (t.withCpu c) := ⟨h.frame, h.resetRequest, h.bus⟩

theorem cpuOnly (s : State) (c : Cpu) : s.Keeps (s.withCpu c) := ⟨rfl, rfl, .refl _⟩

theorem noWrap (h : s.Keeps t) : t.noWrap = s.noWrap := by unfold State.noWrap; rw [h.bus.cfg]

end State.Keeps

theorem State.Reads.keeps {s t : State} (h : s.Reads t) : s.Keeps t := ⟨h.frame, h.resetRequest, h.bus.keeps⟩

theorem State.writeByte_keeps (s : State) (a : Addr) (v : Byte) : s.Keeps (s.writeByte a v) := ⟨rfl, rfl, s.bus.write_keeps a v⟩

@[simp] theorem State.writeByte_cpu (s : State) (a : Addr) (v : Byte) : (s.writeByte a v).cpu = s.cpu := rfl

@[simp] theorem State.readByte_cpu (s : State) (a : Addr) : (s.readByte a).st.cpu = s.cpu := rfl

@[simp] theorem State.load16_cpu (s : State) (l : Loc) : (s.load16 l).st.cpu = s.cpu := rfl

@[simp] theorem State.load24_cpu (s : State) (l : Loc) : (s.load24 l).st.cpu = s.cpu := rfl

@[simp] theorem State.load_cpu (s : State) (w : Width) (l : Loc) : (s.load w l).st.cpu = s.cpu := (s.load_reads w l).cpu

@[simp] theorem State.ea_cpu (s : State) (mode : MemMode) : (s.ea mode).st.cpu = s.cpu := (s.ea_reads mode).cpu

@[simp] theorem State.operand_cpu (s : State) (w : Width) (mode : Mode) : (s.operand w mode).st.cpu = s.cpu :=
  (s.operand_reads w mode).cpu

@[simp] theorem State.store_cpu (s : State) (w : Width) (l : Loc) (v : Word) : (s.store w l v).cpu = s.cpu := by
  cases w <;> rfl

@[simp] theorem State.storeBack_cpu (s : State) (w : Width) (l : Loc) (v : Word) : (s.storeBack w l v).cpu = s.cpu := by
  cases w <;> rfl

@[simp] theorem State.storeTo_cpu (s : State) (w : Width) (mode : MemMode) (v : Word) : (s.storeTo w mode v).cpu = s.cpu := by
  simp [State.storeTo]

/-- A read-modify-write changes P and no other register (40_addressing.md R195). -/
theorem State.modify_cpu (s : State) (w : Width) (l : Loc) (f : Byte → Word → Modified) :
    (s.modify w l f).cpu = { s.cpu with p := (f s.cpu.p (s.load w l).v).p } := by
  simp [State.modify]

theorem State.modifyAt_cpu (s : State) (w : Width) (mode : MemMode) (f : Byte → Word → Modified) :
    (s.modifyAt w mode f).cpu = { s.cpu with p := (f s.cpu.p ((s.ea mode).st.load w (s.ea mode).loc).v).p } := by
  simp [State.modifyAt, State.modify_cpu]

@[simp] theorem State.fetch8_cpu (s : State) : s.fetch8.st.cpu = { s.cpu with pc := s.cpu.pc + 1 } := rfl

@[simp] theorem State.push8_cpu (s : State) (nw : Bool) (v : Byte) : (s.push8 nw v).cpu = s.cpu.pushed nw := rfl

@[simp] theorem State.push16_cpu (s : State) (nw : Bool) (v : Word) :
    (s.push16 nw v).cpu = (s.cpu.pushed nw).pushed nw := rfl

@[simp] theorem State.pull8_cpu (s : State) (nw : Bool) : (s.pull8 nw).st.cpu = s.cpu.pulled nw := rfl

@[simp] theorem State.pull16_cpu (s : State) (nw : Bool) : (s.pull16 nw).st.cpu = (s.cpu.pulled nw).pulled nw := rfl

@[simp] theorem State.pull24_cpu (s : State) (nw : Bool) :
    (s.pull24 nw).st.cpu = ((s.cpu.pulled nw).pulled nw).pulled nw := rfl

/-- Without the wide reading of log 27 the second byte of a store goes to the next address. -/
theorem State.secondStoreAddr_consecutive (s : State) (l : Loc) (h : s.bus.cfg.wideWmdata = false) :
    s.secondStoreAddr l = s.addrOf l 1 := by
  simp [State.secondStoreAddr, h]

/-- A store whose first byte does not select WMDATA goes to consecutive addresses under either reading of log 27. -/
theorem State.secondStoreAddr_of_ne (s : State) (l : Loc)
    (h : busTarget s.bus.cfg s.bus.cart (s.addrOf l 0) ≠ .wramPort 0) : s.secondStoreAddr l = s.addrOf l 1 := by
  simp only [State.secondStoreAddr, beq_eq_false_iff_ne.mpr h, Bool.and_false, Bool.false_eq_true, if_false]

theorem State.store_keeps (s : State) (w : Width) (l : Loc) (v : Word) : s.Keeps (s.store w l v) := by
  cases w with
  | b8 => exact s.writeByte_keeps _ _
  | b16 => exact (s.writeByte_keeps _ _).trans (State.writeByte_keeps _ _ _)

theorem State.storeBack_keeps (s : State) (w : Width) (l : Loc) (v : Word) : s.Keeps (s.storeBack w l v) := by
  cases w with
  | b8 => exact s.writeByte_keeps _ _
  | b16 => exact (s.writeByte_keeps _ _).trans (State.writeByte_keeps _ _ _)

theorem State.storeTo_keeps (s : State) (w : Width) (mode : MemMode) (v : Word) : s.Keeps (s.storeTo w mode v) :=
  (s.ea_reads mode).keeps.trans (State.store_keeps _ _ _ _)

theorem State.modifyAt_keeps (s : State) (w : Width) (mode : MemMode) (f : Byte → Word → Modified) :
    s.Keeps (s.modifyAt w mode f) :=
  (s.ea_reads mode).keeps.trans (((State.load_reads _ _ _).keeps.withCpu _).trans (State.storeBack_keeps _ _ _ _))

theorem State.fetch8_keeps (s : State) : s.Keeps s.fetch8.st := (s.readByte_reads _).keeps.withCpu _

theorem State.push8_keeps (s : State) (nw : Bool) (v : Byte) : s.Keeps (s.push8 nw v) := (s.writeByte_keeps _ _).withCpu _

theorem State.push16_keeps (s : State) (nw : Bool) (v : Word) : s.Keeps (s.push16 nw v) :=
  (s.push8_keeps _ _).trans (State.push8_keeps _ _ _)

theorem State.pull8_keeps (s : State) (nw : Bool) : s.Keeps (s.pull8 nw).st :=
  (State.Keeps.cpuOnly s _).trans (State.readByte_reads _ _).keeps

theorem State.pull16_keeps (s : State) (nw : Bool) : s.Keeps (s.pull16 nw).st :=
  (s.pull8_keeps _).trans (State.pull8_keeps _ _)

theorem State.pull24_keeps (s : State) (nw : Bool) : s.Keeps (s.pull24 nw).st :=
  (s.pull16_keeps _).trans (State.pull8_keeps _ _)

theorem State.endNoWrap_keeps (s : State) : s.Keeps s.endNoWrap := by
  unfold State.endNoWrap
  split
  · exact .cpuOnly s _
  · exact .refl s

theorem State.pushFrame_keeps (k : IntKind) (s : State) : s.Keeps (s.pushFrame k) := by
  unfold State.pushFrame
  dsimp only
  split
  · exact (s.push16_keeps _ _).trans (State.push8_keeps _ _ _)
  · exact (s.push8_keeps _ _).trans ((State.push16_keeps _ _ _).trans (State.push8_keeps _ _ _))

theorem State.interrupt_keeps (k : IntKind) (s : State) : s.Keeps (s.interrupt k) :=
  ((s.pushFrame_keeps k).withCpu _).trans ((State.load16_reads _ _).keeps.withCpu _)

theorem State.returnFromInterrupt_keeps (s : State) : s.Keeps s.returnFromInterrupt := by
  have h : ∀ c, s.Keeps (((s.pull8 false).st.withCpu c).pull16 false).st :=
    fun c => ((s.pull8_keeps _).withCpu _).trans (State.pull16_keeps _ _)
  unfold State.returnFromInterrupt
  dsimp only
  split
  · exact (h _).withCpu _
  · exact (((h _).withCpu _).trans (State.pull8_keeps _ _)).withCpu _

/-- Reset leaves WRAM, SRAM, the cartridge and the parameters alone (70_reset_and_hazards.md R501). -/
theorem State.resetSequence_keeps (s : State) : s.Keeps s.resetSequence := by
  have h : s.Keeps ((s.withCpu s.cpu.afterReset).withBus s.bus.afterReset) :=
    ⟨rfl, rfl, .of_stores rfl rfl rfl rfl⟩
  exact (h.trans (State.load16_reads _ _).keeps).withCpu _

end Sys2Proof.Machine
end

