-- ==== Sys2Proof/Laws/Exec.lean ====
section
/-! SUPPORT. What every instruction keeps: the parameters, the cartridge, the form of the stores, the frame, and the invariants of the registers (10_state.md R42, R43). -/
namespace Sys2Proof.Machine

/-! The register invariants under the register updates. -/
namespace Cpu.Inv
variable {c : Cpu}

/-- A change of flags other than M and X. -/
theorem withP (h : c.Inv) {p : Byte} (hm : flagOf p .m = flagOf c.p .m) (hx : flagOf p .x = flagOf c.p .x) :
    ({ c with p := p } : Cpu).Inv := by
  simp only [Cpu.Inv, Cpu.IndexInv, Cpu.EmulationInv, Cpu.flag, hm, hx] at h ⊢
  exact h

theorem setNZ (h : c.Inv) (w : Width) (v : Word) : (c.setNZ w v).Inv := h.withP (by simp) (by simp)

theorem setFlag (h : c.Inv) (f : Flag) (b : Bool) (hm : f ≠ .m) (hx : f ≠ .x) : (c.setFlag f b).Inv :=
  h.withP (by simp [hm]) (by simp [hx])

/-- A change of A, D, DB, PB, PC or the run state. -/
theorem congr (h : c.Inv) {c' : Cpu} (hp : c'.p = c.p) (he : c'.e = c.e) (hx : c'.x = c.x) (hy : c'.y = c.y)
    (hs : c'.s = c.s) : c'.Inv := by
  simp only [Cpu.Inv, Cpu.IndexInv, Cpu.EmulationInv, Cpu.flag, hp, he, hx, hy, hs] at h ⊢
  exact h

theorem setAcc (h : c.Inv) (v : Word) : (c.setAcc v).Inv := h.congr rfl rfl rfl rfl rfl

theorem setX (h : c.Inv) (v : Word) : (c.setX v).Inv := by
  refine ⟨fun hx => ⟨?_, (h.1 hx).2⟩, h.2⟩
  have hx' : c.flag .x = true := hx
  simp [Cpu.xw, hx', (h.1 hx).1]

theorem setY (h : c.Inv) (v : Word) : (c.setY v).Inv := by
  refine ⟨fun hx => ⟨(h.1 hx).1, ?_⟩, h.2⟩
  have hx' : c.flag .x = true := hx
  simp [Cpu.xw, hx', (h.1 hx).2]

/-- A new stack pointer, on page 1 in emulation mode. -/
theorem withS (h : c.Inv) {v : Word} (hv : c.e = true → hiByte v = 0x01) : ({ c with s := v } : Cpu).Inv :=
  ⟨h.1, fun he => ⟨(h.2 he).1, (h.2 he).2.1, hv he⟩⟩

theorem pushed (h : c.Inv) : (c.pushed false).Inv := by
  unfold Cpu.pushed
  split
  · exact h.withS fun he => by simp [(h.2 he).2.2]
  · rename_i hn
    exact h.withS fun he => absurd he (by simpa using hn)

theorem pulled (h : c.Inv) : (c.pulled false).Inv := by
  unfold Cpu.pulled
  split
  · exact h.withS fun he => by simp [(h.2 he).2.2]
  · rename_i hn
    exact h.withS fun he => absurd he (by simpa using hn)

theorem setP (h : c.Inv) (v : Byte) : (c.setP v).Inv := by
  unfold Cpu.setP
  dsimp only
  split <;> split <;> rename_i he hx <;> refine ⟨fun hx' => ?_, fun he' => ?_⟩ <;>
    simp_all [Cpu.clearXY, Cpu.flag, Cpu.Inv, Cpu.IndexInv, Cpu.EmulationInv]

theorem forceEmulation (c : Cpu) : c.forceEmulation.Inv := by
  simp [Cpu.Inv, Cpu.IndexInv, Cpu.EmulationInv, Cpu.flag]

end Cpu.Inv

/-- The invariants but for the stack pointer's page, which a `NoWrapOp` leaves open until its end (40_addressing.md R196). -/
def Cpu.InvButS (c : Cpu) : Prop := c.IndexInv ∧ (c.e = true → c.flag .m = true ∧ c.flag .x = true)

theorem Cpu.Inv.butS {c : Cpu} (h : c.Inv) : c.InvButS := ⟨h.1, fun he => ⟨(h.2 he).1, (h.2 he).2.1⟩⟩

theorem Cpu.InvButS.congr {c c' : Cpu} (h : c.InvButS) (hp : c'.p = c.p) (he : c'.e = c.e) (hx : c'.x = c.x)
    (hy : c'.y = c.y) : c'.InvButS := by
  simp only [Cpu.InvButS, Cpu.IndexInv, Cpu.flag, hp, he, hx, hy] at h ⊢
  exact h

/-- The end of a `NoWrapOp` restores the invariants. -/
theorem State.endNoWrap_inv {s : State} (h : s.cpu.InvButS) (hs : s.noWrap = false → s.cpu.Inv) : s.endNoWrap.cpu.Inv := by
  unfold State.endNoWrap
  by_cases hn : s.noWrap = true
  · by_cases he : s.cpu.e = true
    · simp only [hn, he, Bool.and_self, if_true]
      exact ⟨h.1, fun _ => ⟨(h.2 he).1, (h.2 he).2, by simp⟩⟩
    · simp only [hn, he, Bool.and_false]
      exact ⟨h.1, fun he' => absurd he' he⟩
  · simp only [hn, Bool.false_and]
    exact hs (by simpa using hn)

/-- A read-modify-write function leaves M and X alone. -/
def KeepsWidths (f : Byte → Word → Modified) : Prop :=
  ∀ p v, flagOf (f p v).p .m = flagOf p .m ∧ flagOf (f p v).p .x = flagOf p .x

theorem incValue_widths (w : Width) : KeepsWidths (incValue w) := fun p v => by simp [incValue]
theorem decValue_widths (w : Width) : KeepsWidths (decValue w) := fun p v => by simp [decValue]
theorem aslValue_widths (w : Width) : KeepsWidths (aslValue w) := fun p v => by simp [aslValue]
theorem lsrValue_widths (w : Width) : KeepsWidths (lsrValue w) := fun p v => by simp [lsrValue]
theorem rolValue_widths (w : Width) : KeepsWidths (rolValue w) := fun p v => by simp [rolValue]
theorem rorValue_widths (w : Width) : KeepsWidths (rorValue w) := fun p v => by simp [rorValue]
theorem tsbValue_widths (a : Word) : KeepsWidths (tsbValue a) := fun p v => by simp [tsbValue]
theorem trbValue_widths (a : Word) : KeepsWidths (trbValue a) := fun p v => by simp [trbValue]

/-- What an instruction keeps: `State.Keeps`, and the register invariants. -/
structure State.Sound (s t : State) : Prop where
  keeps : s.Keeps t
  inv : s.cpu.Inv → t.cpu.Inv

namespace State.Sound

theorem refl (s : State) : s.Sound s := ⟨.refl s, id⟩

/-- A register-only instruction. -/
theorem cpuOnly {s : State} {c : Cpu} (h : s.cpu.Inv → c.Inv) : s.Sound (s.withCpu c) := ⟨.cpuOnly s c, h⟩

/-- Reads, then new registers. -/
theorem reads {s t : State} (h : s.Reads t) {c : Cpu} (hc : s.cpu.Inv → c.Inv) : s.Sound (t.withCpu c) :=
  ⟨h.keeps.withCpu c, hc⟩

end State.Sound

theorem State.lda_sound (s : State) (mode : Mode) : s.Sound (s.lda mode) :=
  .reads (s.operand_reads _ mode) fun h => by simpa using (h.setAcc _).setNZ _ _

theorem State.ldx_sound (s : State) (mode : Mode) : s.Sound (s.ldx mode) :=
  .reads (s.operand_reads _ mode) fun h => by simpa using (h.setX _).setNZ _ _

theorem State.ldy_sound (s : State) (mode : Mode) : s.Sound (s.ldy mode) :=
  .reads (s.operand_reads _ mode) fun h => by simpa using (h.setY _).setNZ _ _

theorem State.storeTo_sound (s : State) (w : Width) (mode : MemMode) (v : Word) : s.Sound (s.storeTo w mode v) :=
  ⟨s.storeTo_keeps w mode v, fun h => by simpa using h⟩

theorem Cpu.Inv.addWith {c : Cpu} (h : c.Inv) (b : Word) (sub : Bool) : (c.addWith b sub).Inv :=
  (h.setAcc _).withP (by simp [addFlags]) (by simp [addFlags])

theorem State.adc_sound (s : State) (mode : Mode) : s.Sound (s.adc mode) :=
  .reads (s.operand_reads _ mode) fun h => by simpa using h.addWith _ _

theorem State.sbc_sound (s : State) (mode : Mode) : s.Sound (s.sbc mode) :=
  .reads (s.operand_reads _ mode) fun h => by simpa using h.addWith _ _

theorem State.compare_sound (s : State) (w : Width) (reg : Word) (mode : Mode) : s.Sound (s.compare w reg mode) :=
  .reads (s.operand_reads _ mode) fun h => by simpa using h.withP (by simp [compareFlags]) (by simp [compareFlags])

theorem State.logic_sound (s : State) (op : Word → Word → Word) (mode : Mode) : s.Sound (s.logic op mode) :=
  .reads (s.operand_reads _ mode) fun h => by simpa using (h.setAcc _).setNZ _ _

theorem State.bit_sound (s : State) (mode : MemMode) : s.Sound (s.bit mode) :=
  .reads (s.operand_reads _ _) fun h => by simpa using h.withP (by simp [bitFlags]) (by simp [bitFlags])

theorem State.bitImm_sound (s : State) (v : Word) : s.Sound (s.bitImm v) :=
  .reads (s.operand_reads _ _) fun h => by simpa using h.withP (by simp [bitImmFlags]) (by simp [bitImmFlags])

theorem State.modifyAt_sound (s : State) (w : Width) (mode : MemMode) {f : Byte → Word → Modified} (hf : KeepsWidths f) :
    s.Sound (s.modifyAt w mode f) :=
  ⟨s.modifyAt_keeps w mode f, fun h => by
    rw [State.modifyAt_cpu]; exact h.withP (hf _ _).1 (hf _ _).2⟩

theorem State.modifyAcc_sound (s : State) {f : Byte → Word → Modified} (hf : KeepsWidths f) : s.Sound (s.modifyAcc f) :=
  .cpuOnly fun h => (h.setAcc _).withP (hf _ _).1 (hf _ _).2

theorem State.jump_sound (s : State) (v : Word) : s.Sound (s.jump v) := .cpuOnly fun h => h.congr rfl rfl rfl rfl rfl

theorem State.branch_sound (s : State) (taken : Bool) (rel : Byte) : s.Sound (s.branch taken rel) := by
  unfold State.branch
  split
  · exact s.jump_sound _
  · exact .refl s

theorem State.jumpThrough_sound (s : State) (l : Loc) : s.Sound (s.jumpThrough l) :=
  .reads (s.load16_reads l) fun h => h.congr rfl rfl rfl rfl rfl

theorem State.jumpLong_sound (s : State) (a : Addr) : s.Sound (s.jumpLong a) :=
  .cpuOnly fun h => h.congr rfl rfl rfl rfl rfl

theorem State.jumpLongThrough_sound (s : State) (l : Loc) : s.Sound (s.jumpLongThrough l) :=
  .reads (s.load24_reads l) fun h => h.congr rfl rfl rfl rfl rfl

theorem State.callNear_sound (s : State) (a : Word) : s.Sound (s.callNear a) :=
  ⟨(s.push16_keeps _ _).withCpu _, fun h => (h.pushed.pushed).congr rfl rfl rfl rfl rfl⟩

/-- A sequence that ends as a `NoWrapOp`: without the parameter its stack pointer obeys the ordinary rule. -/
theorem State.Sound.endNoWrap {s t : State} (hk : s.Keeps t) (hb : s.cpu.Inv → t.cpu.InvButS)
    (hs : s.cpu.Inv → s.noWrap = false → t.cpu.Inv) : s.Sound t.endNoWrap :=
  ⟨hk.trans t.endNoWrap_keeps, fun h => State.endNoWrap_inv (hb h) fun hn => hs h (by rw [← hk.noWrap]; exact hn)⟩

theorem State.callIndexed_sound (s : State) (lo : Byte) : s.Sound (s.callIndexed lo) := by
  have hk := (s.push16_keeps s.noWrap s.cpu.pc).trans (State.fetch8_keeps _)
  refine .endNoWrap ((hk.trans (State.load16_reads _ _).keeps).withCpu _) (fun h => h.butS.congr ?_ ?_ ?_ ?_) ?_
  all_goals try simp
  intro h hn
  rw [hn]
  exact h.pushed.pushed.congr (by simp) (by simp) (by simp) (by simp) (by simp)

theorem State.callLong_sound (s : State) (off : Word) : s.Sound (s.callLong off) := by
  have hk := (s.push8_keeps s.noWrap s.cpu.pb).trans (State.fetch8_keeps _)
  refine .endNoWrap ((hk.trans (State.push16_keeps _ _ _)).withCpu _) (fun h => h.butS.congr ?_ ?_ ?_ ?_) ?_
  all_goals try simp
  intro h hn
  rw [hn]
  have h1 : (s.push8 false s.cpu.pb).fetch8.st.cpu.Inv := h.pushed.congr rfl rfl rfl rfl rfl
  exact h1.pushed.pushed.congr (by simp) (by simp) (by simp) (by simp) (by simp)

theorem State.returnNear_sound (s : State) : s.Sound s.returnNear :=
  ⟨(s.pull16_keeps _).withCpu _, fun h => h.pulled.pulled.congr rfl rfl rfl rfl rfl⟩

theorem State.returnLong_sound (s : State) : s.Sound s.returnLong := by
  refine .endNoWrap ((s.pull24_keeps _).withCpu _) (fun h => h.butS.congr ?_ ?_ ?_ ?_) ?_
  all_goals try simp
  intro h hn
  rw [hn]
  exact h.pulled.pulled.pulled.congr (by simp) (by simp) (by simp) (by simp) (by simp)

theorem State.push8_sound (s : State) (v : Byte) : s.Sound (s.push8 false v) := ⟨s.push8_keeps _ _, fun h => h.pushed⟩

theorem State.pushWidth_sound (s : State) (w : Width) (v : Word) : s.Sound (s.pushWidth w v) := by
  cases w with
  | b8 => exact s.push8_sound _
  | b16 => exact ⟨s.push16_keeps _ _, fun h => h.pushed.pushed⟩

theorem State.pushNew_sound (s : State) (v : Word) : s.Sound (s.pushNew v) := by
  refine .endNoWrap (s.push16_keeps _ _) (fun h => h.butS.congr ?_ ?_ ?_ ?_) ?_
  all_goals try simp
  intro h hn
  rw [hn]
  exact h.pushed.pushed

theorem State.pushIndirect_sound (s : State) (dp : Byte) : s.Sound (s.pushIndirect dp) :=
  let h := State.pushNew_sound (s.load16 (.dirN (zext dp))).st (s.load16 (.dirN (zext dp))).v
  ⟨(s.load16_reads _).keeps.trans h.keeps, h.inv⟩

theorem State.pullWidth_keeps (s : State) (w : Width) : s.Keeps (s.pullWidth w).st := by
  cases w with
  | b8 => exact s.pull8_keeps _
  | b16 => exact s.pull16_keeps _

theorem State.pullWidth_inv (s : State) (w : Width) (h : s.cpu.Inv) : (s.pullWidth w).st.cpu.Inv := by
  cases w with
  | b8 => exact h.pulled
  | b16 => exact h.pulled.pulled

theorem State.pullAcc_sound (s : State) : s.Sound s.pullAcc :=
  ⟨(s.pullWidth_keeps _).withCpu _, fun h => ((s.pullWidth_inv _ h).setAcc _).setNZ _ _⟩

theorem State.pullX_sound (s : State) : s.Sound s.pullX :=
  ⟨(s.pullWidth_keeps _).withCpu _, fun h => ((s.pullWidth_inv _ h).setX _).setNZ _ _⟩

theorem State.pullY_sound (s : State) : s.Sound s.pullY :=
  ⟨(s.pullWidth_keeps _).withCpu _, fun h => ((s.pullWidth_inv _ h).setY _).setNZ _ _⟩

theorem State.pullP_sound (s : State) : s.Sound s.pullP := ⟨(s.pull8_keeps _).withCpu _, fun h => h.pulled.setP _⟩

theorem State.pullBank_sound (s : State) : s.Sound s.pullBank :=
  ⟨(s.pull8_keeps _).withCpu _, fun h => (h.pulled.congr rfl rfl rfl rfl rfl).setNZ _ _⟩

theorem State.pullDirect_sound (s : State) : s.Sound s.pullDirect := by
  refine .endNoWrap ((s.pull16_keeps _).withCpu _) (fun h => ?_) ?_
  · have := h.butS
    simp only [Cpu.InvButS, Cpu.IndexInv, Cpu.flag] at this ⊢
    simpa using this
  · intro h hn
    rw [hn]
    exact Cpu.Inv.setNZ (Cpu.Inv.congr h.pulled.pulled rfl rfl rfl rfl rfl) _ _

theorem Cpu.xce_inv {c : Cpu} (h : c.Inv) : c.xce.Inv := by
  unfold Cpu.xce
  dsimp only
  split
  · exact .forceEmulation _
  · rename_i he
    refine ⟨fun hx => h.1 ?_, fun he' => absurd he' he⟩
    simpa [Cpu.flag] using hx

theorem State.pushFrame_inv (k : IntKind) (s : State) (h : s.cpu.Inv) : (s.pushFrame k).cpu.Inv := by
  unfold State.pushFrame
  dsimp only
  split
  · exact h.pushed.pushed.pushed
  · exact h.pushed.pushed.pushed.pushed

theorem State.interrupt_inv (k : IntKind) (s : State) (h : s.cpu.Inv) : (s.interrupt k).cpu.Inv := by
  have h1 := ((s.pushFrame_inv k h).setFlag .i true (by decide) (by decide)).setFlag .d false (by decide) (by decide)
  exact h1.congr rfl rfl rfl rfl rfl

theorem State.interrupt_sound (k : IntKind) (s : State) : s.Sound (s.interrupt k) := ⟨s.interrupt_keeps k, s.interrupt_inv k⟩

theorem State.returnFromInterrupt_sound (s : State) : s.Sound s.returnFromInterrupt := by
  refine ⟨s.returnFromInterrupt_keeps, fun h => ?_⟩
  have h1 : ∀ v, (((((s.pull8 false).st.withCpu ((s.pull8 false).st.cpu.setP v)).pull16 false).st).cpu).Inv :=
    fun v => Cpu.Inv.pulled (Cpu.Inv.pulled (Cpu.Inv.setP h.pulled v))
  unfold State.returnFromInterrupt
  dsimp only
  split
  · exact (h1 _).congr rfl rfl rfl rfl rfl
  · have h2 : ∀ c : Cpu, c.Inv → ∀ pc, ({ c with pc := pc } : Cpu).Inv := fun c h pc => h.congr rfl rfl rfl rfl rfl
    exact (h2 _ (h1 _) _).pulled.congr rfl rfl rfl rfl rfl

theorem State.resetSequence_inv (s : State) : s.resetSequence.cpu.Inv := by
  have h : s.cpu.afterReset.Inv :=
    (((Cpu.Inv.forceEmulation { s.cpu with e := true }).setFlag .d false (by decide) (by decide)).setFlag .i true
      (by decide) (by decide)).congr rfl rfl rfl rfl rfl
  exact h.congr rfl rfl rfl rfl rfl

/-- Under R350 and R351 read alone, DB before a step of a block move plays no part and no move is recorded. -/
theorem State.moveBank_of_operand (dbk : Byte) (s : State) (h : s.bus.cfg.moveKeepsDb = false) : s.moveBank dbk = dbk := by
  simp [State.moveBank, State.moveDbChanged, h]

theorem State.movesAfter_of_operand (dbk : Byte) (left : Bool) (s : State) (h : s.bus.cfg.moveKeepsDb = false) :
    s.movesAfter dbk left = s.cpu.moves := by
  simp [State.movesAfter, h]

/-- The destination bank is the operand, or the DB that something changed inside a move in progress. -/
theorem State.moveBank_cases (dbk : Byte) (s : State) :
    s.moveBank dbk = dbk ∨ (s.moveBank dbk = s.cpu.db ∧ s.bus.cfg.moveKeepsDb = true ∧
      ∃ k, s.cpu.moveInProgress = some k ∧ k ≠ s.cpu.db) := by
  unfold State.moveBank State.moveDbChanged
  cases h : s.bus.cfg.moveKeepsDb with
  | false => exact Or.inl (by simp)
  | true =>
    cases s.cpu.moveInProgress with
    | none => exact Or.inl (by simp)
    | some k =>
      by_cases e : k = s.cpu.db
      · exact Or.inl (by simp [e])
      · exact Or.inr ⟨by simp [e], rfl, k, rfl, e⟩

theorem State.blockMove_sound (next : Width → Word → Word) (dbk sbk : Byte) (s : State) :
    s.Sound (s.blockMove next dbk sbk) := by
  refine ⟨((State.Keeps.cpuOnly s _).trans
    ((State.readByte_reads _ _).keeps.trans (State.writeByte_keeps _ _ _))).withCpu _, fun h => ?_⟩
  have h0 : ({ s.cpu with db := s.moveBank dbk } : Cpu).Inv := h.congr rfl rfl rfl rfl rfl
  exact ((h0.setX (next s.cpu.xw s.cpu.x)).setY (next s.cpu.xw s.cpu.y)).congr rfl rfl rfl rfl rfl

end Sys2Proof.Machine
end

