-- ==== Sys2Proof/Laws/PerInstr.lean ====
section
/-! SUPPORT. The family RoundTrip: decoding the encoding of a well-formed instruction gives it back, one lemma for each constructor of Instr. -/
namespace Sys2Proof.Laws.RoundTrip

/-- What the family says of an instruction: under all widths it is well-formed for, whatever bytes follow. -/
def Statement (i : Instr) : Prop :=
  ∀ (m x : Width) (rest : List Byte), i.wellFormed m x = true → decode m x (encode m x i ++ rest) = .ok (i, rest)

/-! One lemma for each format of 30_encoding.md R140: the row of the opcode, its operand and what it builds. -/

theorem of_implied {i : Instr} (op : Byte) (hi : i.opcode = op) (hr : opcodeRow op = .implied i)
    (ho : i.operand = .none) : Statement i := by
  intro m x rest _
  simp [encode, hi, ho, Operand.encode, decode, hr, Row.operandBytes, Row.build]

theorem of_op8 {i : Instr} {f : Byte → Instr} {b : Byte} (op : Byte) (hi : i.opcode = op) (hr : opcodeRow op = .op8 f)
    (ho : i.operand = .byte b)
    (hf : f b = i) : Statement i := by
  intro m x rest _
  simp [encode, hi, ho, Operand.encode, decode, hr, Row.operandBytes, Row.build, hf]

theorem of_op16 {i : Instr} {f : Word → Instr} {w : Word} (op : Byte) (hi : i.opcode = op) (hr : opcodeRow op = .op16 f)
    (ho : i.operand = .word w)
    (hf : f w = i) : Statement i := by
  intro m x rest _
  simp [encode, hi, ho, Operand.encode, decode, hr, Row.operandBytes, Row.build, hf]

theorem of_op24 {i : Instr} {f : Addr → Instr} {a : Addr} (op : Byte) (hi : i.opcode = op) (hr : opcodeRow op = .op24 f)
    (ho : i.operand = .long a)
    (hf : f a = i) : Statement i := by
  intro m x rest _
  simp [encode, hi, ho, Operand.encode, decode, hr, Row.operandBytes, Row.build, hf]

theorem of_banks {i : Instr} {f : Byte → Byte → Instr} {d s : Byte} (op : Byte) (hi : i.opcode = op) (hr : opcodeRow op = .banks f)
    (ho : i.operand = .banks d s) (hf : f d s = i) : Statement i := by
  intro m x rest _
  simp [encode, hi, ho, Operand.encode, decode, hr, Row.operandBytes, Row.build, hf]

/-- An immediate that fits its width is what its bytes spell. -/
theorem immValue_of_fits {w : Width} {v : Word} (h : (w.trunc v == v) = true) (b1 : Byte) :
    (w = .b8 → immValue w (loByte v) b1 = v) ∧ (w = .b16 → immValue w (loByte v) (hiByte v) = v) := by
  refine ⟨fun e => ?_, fun e => ?_⟩ <;> subst e
  · simpa [immValue] using h
  · simp [immValue]

theorem of_immM {i : Instr} {f : Word → Instr} {v : Word} (op : Byte) (hi : i.opcode = op) (hr : opcodeRow op = .immM f)
    (ho : i.operand = .immM v)
    (hf : f v = i) : Statement i := by
  intro m x rest h
  rw [Instr.wellFormed, ho] at h
  cases m
  · have := (immValue_of_fits h (rest.getD 0 0)).1 rfl
    simp [encode, hi, ho, Operand.encode, decode, hr, Row.operandBytes, Row.build, Width.bytes] at this ⊢
    rw [this, hf]
  · have := (immValue_of_fits h 0).2 rfl
    simp [encode, hi, ho, Operand.encode, decode, hr, Row.operandBytes, Row.build, Width.bytes] at this ⊢
    rw [this, hf]

theorem of_immX {i : Instr} {f : Word → Instr} {v : Word} (op : Byte) (hi : i.opcode = op) (hr : opcodeRow op = .immX f)
    (ho : i.operand = .immX v)
    (hf : f v = i) : Statement i := by
  intro m x rest h
  rw [Instr.wellFormed, ho] at h
  cases x
  · have := (immValue_of_fits h (rest.getD 0 0)).1 rfl
    simp [encode, hi, ho, Operand.encode, decode, hr, Row.operandBytes, Row.build, Width.bytes] at this ⊢
    rw [this, hf]
  · have := (immValue_of_fits h 0).2 rfl
    simp [encode, hi, ho, Operand.encode, decode, hr, Row.operandBytes, Row.build, Width.bytes] at this ⊢
    rw [this, hf]

theorem brk (sig : Byte) : Statement (.brk sig) := of_op8 0x00 rfl rfl rfl rfl

theorem oraDpXInd (dp : Byte) : Statement (.oraDpXInd dp) := of_op8 0x01 rfl rfl rfl rfl

theorem cop (sig : Byte) : Statement (.cop sig) := of_op8 0x02 rfl rfl rfl rfl

theorem oraSr (sr : Byte) : Statement (.oraSr sr) := of_op8 0x03 rfl rfl rfl rfl

theorem tsbDp (dp : Byte) : Statement (.tsbDp dp) := of_op8 0x04 rfl rfl rfl rfl

theorem oraDp (dp : Byte) : Statement (.oraDp dp) := of_op8 0x05 rfl rfl rfl rfl

theorem aslDp (dp : Byte) : Statement (.aslDp dp) := of_op8 0x06 rfl rfl rfl rfl

theorem oraDpIndLong (dp : Byte) : Statement (.oraDpIndLong dp) := of_op8 0x07 rfl rfl rfl rfl

theorem php : Statement .php := of_implied 0x08 rfl rfl rfl

theorem oraImm (v : Word) : Statement (.oraImm v) := of_immM 0x09 rfl rfl rfl rfl

theorem aslAcc : Statement .aslAcc := of_implied 0x0A rfl rfl rfl

theorem phd : Statement .phd := of_implied 0x0B rfl rfl rfl

theorem tsbAbs (addr : Word) : Statement (.tsbAbs addr) := of_op16 0x0C rfl rfl rfl rfl

theorem oraAbs (addr : Word) : Statement (.oraAbs addr) := of_op16 0x0D rfl rfl rfl rfl

theorem aslAbs (addr : Word) : Statement (.aslAbs addr) := of_op16 0x0E rfl rfl rfl rfl

theorem oraLong (long : Addr) : Statement (.oraLong long) := of_op24 0x0F rfl rfl rfl rfl

theorem bpl (rel : Byte) : Statement (.bpl rel) := of_op8 0x10 rfl rfl rfl rfl

theorem oraDpIndY (dp : Byte) : Statement (.oraDpIndY dp) := of_op8 0x11 rfl rfl rfl rfl

theorem oraDpInd (dp : Byte) : Statement (.oraDpInd dp) := of_op8 0x12 rfl rfl rfl rfl

theorem oraSrIndY (sr : Byte) : Statement (.oraSrIndY sr) := of_op8 0x13 rfl rfl rfl rfl

theorem trbDp (dp : Byte) : Statement (.trbDp dp) := of_op8 0x14 rfl rfl rfl rfl

theorem oraDpX (dp : Byte) : Statement (.oraDpX dp) := of_op8 0x15 rfl rfl rfl rfl

theorem aslDpX (dp : Byte) : Statement (.aslDpX dp) := of_op8 0x16 rfl rfl rfl rfl

theorem oraDpIndLongY (dp : Byte) : Statement (.oraDpIndLongY dp) := of_op8 0x17 rfl rfl rfl rfl

theorem clc : Statement .clc := of_implied 0x18 rfl rfl rfl

theorem oraAbsY (addr : Word) : Statement (.oraAbsY addr) := of_op16 0x19 rfl rfl rfl rfl

theorem incAcc : Statement .incAcc := of_implied 0x1A rfl rfl rfl

theorem tcs : Statement .tcs := of_implied 0x1B rfl rfl rfl

theorem trbAbs (addr : Word) : Statement (.trbAbs addr) := of_op16 0x1C rfl rfl rfl rfl

theorem oraAbsX (addr : Word) : Statement (.oraAbsX addr) := of_op16 0x1D rfl rfl rfl rfl

theorem aslAbsX (addr : Word) : Statement (.aslAbsX addr) := of_op16 0x1E rfl rfl rfl rfl

theorem oraLongX (long : Addr) : Statement (.oraLongX long) := of_op24 0x1F rfl rfl rfl rfl

theorem jsrAbs (addr : Word) : Statement (.jsrAbs addr) := of_op16 0x20 rfl rfl rfl rfl

theorem andDpXInd (dp : Byte) : Statement (.andDpXInd dp) := of_op8 0x21 rfl rfl rfl rfl

theorem jsl (long : Addr) : Statement (.jsl long) := of_op24 0x22 rfl rfl rfl rfl

theorem andSr (sr : Byte) : Statement (.andSr sr) := of_op8 0x23 rfl rfl rfl rfl

theorem bitDp (dp : Byte) : Statement (.bitDp dp) := of_op8 0x24 rfl rfl rfl rfl

theorem andDp (dp : Byte) : Statement (.andDp dp) := of_op8 0x25 rfl rfl rfl rfl

theorem rolDp (dp : Byte) : Statement (.rolDp dp) := of_op8 0x26 rfl rfl rfl rfl

theorem andDpIndLong (dp : Byte) : Statement (.andDpIndLong dp) := of_op8 0x27 rfl rfl rfl rfl

theorem plp : Statement .plp := of_implied 0x28 rfl rfl rfl

theorem andImm (v : Word) : Statement (.andImm v) := of_immM 0x29 rfl rfl rfl rfl

theorem rolAcc : Statement .rolAcc := of_implied 0x2A rfl rfl rfl

theorem pld : Statement .pld := of_implied 0x2B rfl rfl rfl

theorem bitAbs (addr : Word) : Statement (.bitAbs addr) := of_op16 0x2C rfl rfl rfl rfl

theorem andAbs (addr : Word) : Statement (.andAbs addr) := of_op16 0x2D rfl rfl rfl rfl

theorem rolAbs (addr : Word) : Statement (.rolAbs addr) := of_op16 0x2E rfl rfl rfl rfl

theorem andLong (long : Addr) : Statement (.andLong long) := of_op24 0x2F rfl rfl rfl rfl

theorem bmi (rel : Byte) : Statement (.bmi rel) := of_op8 0x30 rfl rfl rfl rfl

theorem andDpIndY (dp : Byte) : Statement (.andDpIndY dp) := of_op8 0x31 rfl rfl rfl rfl

theorem andDpInd (dp : Byte) : Statement (.andDpInd dp) := of_op8 0x32 rfl rfl rfl rfl

theorem andSrIndY (sr : Byte) : Statement (.andSrIndY sr) := of_op8 0x33 rfl rfl rfl rfl

theorem bitDpX (dp : Byte) : Statement (.bitDpX dp) := of_op8 0x34 rfl rfl rfl rfl

theorem andDpX (dp : Byte) : Statement (.andDpX dp) := of_op8 0x35 rfl rfl rfl rfl

theorem rolDpX (dp : Byte) : Statement (.rolDpX dp) := of_op8 0x36 rfl rfl rfl rfl

theorem andDpIndLongY (dp : Byte) : Statement (.andDpIndLongY dp) := of_op8 0x37 rfl rfl rfl rfl

theorem sec : Statement .sec := of_implied 0x38 rfl rfl rfl

theorem andAbsY (addr : Word) : Statement (.andAbsY addr) := of_op16 0x39 rfl rfl rfl rfl

theorem decAcc : Statement .decAcc := of_implied 0x3A rfl rfl rfl

theorem tsc : Statement .tsc := of_implied 0x3B rfl rfl rfl

theorem bitAbsX (addr : Word) : Statement (.bitAbsX addr) := of_op16 0x3C rfl rfl rfl rfl

theorem andAbsX (addr : Word) : Statement (.andAbsX addr) := of_op16 0x3D rfl rfl rfl rfl

theorem rolAbsX (addr : Word) : Statement (.rolAbsX addr) := of_op16 0x3E rfl rfl rfl rfl

theorem andLongX (long : Addr) : Statement (.andLongX long) := of_op24 0x3F rfl rfl rfl rfl

theorem rti : Statement .rti := of_implied 0x40 rfl rfl rfl

theorem eorDpXInd (dp : Byte) : Statement (.eorDpXInd dp) := of_op8 0x41 rfl rfl rfl rfl

theorem wdm (imm : Byte) : Statement (.wdm imm) := of_op8 0x42 rfl rfl rfl rfl

theorem eorSr (sr : Byte) : Statement (.eorSr sr) := of_op8 0x43 rfl rfl rfl rfl

theorem mvp (dbk : Byte) (sbk : Byte) : Statement (.mvp dbk sbk) := of_banks 0x44 rfl rfl rfl rfl

theorem eorDp (dp : Byte) : Statement (.eorDp dp) := of_op8 0x45 rfl rfl rfl rfl

theorem lsrDp (dp : Byte) : Statement (.lsrDp dp) := of_op8 0x46 rfl rfl rfl rfl

theorem eorDpIndLong (dp : Byte) : Statement (.eorDpIndLong dp) := of_op8 0x47 rfl rfl rfl rfl

theorem pha : Statement .pha := of_implied 0x48 rfl rfl rfl

theorem eorImm (v : Word) : Statement (.eorImm v) := of_immM 0x49 rfl rfl rfl rfl

theorem lsrAcc : Statement .lsrAcc := of_implied 0x4A rfl rfl rfl

theorem phk : Statement .phk := of_implied 0x4B rfl rfl rfl

theorem jmpAbs (addr : Word) : Statement (.jmpAbs addr) := of_op16 0x4C rfl rfl rfl rfl

theorem eorAbs (addr : Word) : Statement (.eorAbs addr) := of_op16 0x4D rfl rfl rfl rfl

theorem lsrAbs (addr : Word) : Statement (.lsrAbs addr) := of_op16 0x4E rfl rfl rfl rfl

theorem eorLong (long : Addr) : Statement (.eorLong long) := of_op24 0x4F rfl rfl rfl rfl

theorem bvc (rel : Byte) : Statement (.bvc rel) := of_op8 0x50 rfl rfl rfl rfl

theorem eorDpIndY (dp : Byte) : Statement (.eorDpIndY dp) := of_op8 0x51 rfl rfl rfl rfl

theorem eorDpInd (dp : Byte) : Statement (.eorDpInd dp) := of_op8 0x52 rfl rfl rfl rfl

theorem eorSrIndY (sr : Byte) : Statement (.eorSrIndY sr) := of_op8 0x53 rfl rfl rfl rfl

theorem mvn (dbk : Byte) (sbk : Byte) : Statement (.mvn dbk sbk) := of_banks 0x54 rfl rfl rfl rfl

theorem eorDpX (dp : Byte) : Statement (.eorDpX dp) := of_op8 0x55 rfl rfl rfl rfl

theorem lsrDpX (dp : Byte) : Statement (.lsrDpX dp) := of_op8 0x56 rfl rfl rfl rfl

theorem eorDpIndLongY (dp : Byte) : Statement (.eorDpIndLongY dp) := of_op8 0x57 rfl rfl rfl rfl

theorem cli : Statement .cli := of_implied 0x58 rfl rfl rfl

theorem eorAbsY (addr : Word) : Statement (.eorAbsY addr) := of_op16 0x59 rfl rfl rfl rfl

theorem phy : Statement .phy := of_implied 0x5A rfl rfl rfl

theorem tcd : Statement .tcd := of_implied 0x5B rfl rfl rfl

theorem jmlLong (long : Addr) : Statement (.jmlLong long) := of_op24 0x5C rfl rfl rfl rfl

theorem eorAbsX (addr : Word) : Statement (.eorAbsX addr) := of_op16 0x5D rfl rfl rfl rfl

theorem lsrAbsX (addr : Word) : Statement (.lsrAbsX addr) := of_op16 0x5E rfl rfl rfl rfl

theorem eorLongX (long : Addr) : Statement (.eorLongX long) := of_op24 0x5F rfl rfl rfl rfl

theorem rts : Statement .rts := of_implied 0x60 rfl rfl rfl

theorem adcDpXInd (dp : Byte) : Statement (.adcDpXInd dp) := of_op8 0x61 rfl rfl rfl rfl

theorem per (rel : Word) : Statement (.per rel) := of_op16 0x62 rfl rfl rfl rfl

theorem adcSr (sr : Byte) : Statement (.adcSr sr) := of_op8 0x63 rfl rfl rfl rfl

theorem stzDp (dp : Byte) : Statement (.stzDp dp) := of_op8 0x64 rfl rfl rfl rfl

theorem adcDp (dp : Byte) : Statement (.adcDp dp) := of_op8 0x65 rfl rfl rfl rfl

theorem rorDp (dp : Byte) : Statement (.rorDp dp) := of_op8 0x66 rfl rfl rfl rfl

theorem adcDpIndLong (dp : Byte) : Statement (.adcDpIndLong dp) := of_op8 0x67 rfl rfl rfl rfl

theorem pla : Statement .pla := of_implied 0x68 rfl rfl rfl

theorem adcImm (v : Word) : Statement (.adcImm v) := of_immM 0x69 rfl rfl rfl rfl

theorem rorAcc : Statement .rorAcc := of_implied 0x6A rfl rfl rfl

theorem rtl : Statement .rtl := of_implied 0x6B rfl rfl rfl

theorem jmpAbsInd (addr : Word) : Statement (.jmpAbsInd addr) := of_op16 0x6C rfl rfl rfl rfl

theorem adcAbs (addr : Word) : Statement (.adcAbs addr) := of_op16 0x6D rfl rfl rfl rfl

theorem rorAbs (addr : Word) : Statement (.rorAbs addr) := of_op16 0x6E rfl rfl rfl rfl

theorem adcLong (long : Addr) : Statement (.adcLong long) := of_op24 0x6F rfl rfl rfl rfl

theorem bvs (rel : Byte) : Statement (.bvs rel) := of_op8 0x70 rfl rfl rfl rfl

theorem adcDpIndY (dp : Byte) : Statement (.adcDpIndY dp) := of_op8 0x71 rfl rfl rfl rfl

theorem adcDpInd (dp : Byte) : Statement (.adcDpInd dp) := of_op8 0x72 rfl rfl rfl rfl

theorem adcSrIndY (sr : Byte) : Statement (.adcSrIndY sr) := of_op8 0x73 rfl rfl rfl rfl

theorem stzDpX (dp : Byte) : Statement (.stzDpX dp) := of_op8 0x74 rfl rfl rfl rfl

theorem adcDpX (dp : Byte) : Statement (.adcDpX dp) := of_op8 0x75 rfl rfl rfl rfl

theorem rorDpX (dp : Byte) : Statement (.rorDpX dp) := of_op8 0x76 rfl rfl rfl rfl

theorem adcDpIndLongY (dp : Byte) : Statement (.adcDpIndLongY dp) := of_op8 0x77 rfl rfl rfl rfl

theorem sei : Statement .sei := of_implied 0x78 rfl rfl rfl

theorem adcAbsY (addr : Word) : Statement (.adcAbsY addr) := of_op16 0x79 rfl rfl rfl rfl

theorem ply : Statement .ply := of_implied 0x7A rfl rfl rfl

theorem tdc : Statement .tdc := of_implied 0x7B rfl rfl rfl

theorem jmpAbsXInd (addr : Word) : Statement (.jmpAbsXInd addr) := of_op16 0x7C rfl rfl rfl rfl

theorem adcAbsX (addr : Word) : Statement (.adcAbsX addr) := of_op16 0x7D rfl rfl rfl rfl

theorem rorAbsX (addr : Word) : Statement (.rorAbsX addr) := of_op16 0x7E rfl rfl rfl rfl

theorem adcLongX (long : Addr) : Statement (.adcLongX long) := of_op24 0x7F rfl rfl rfl rfl

theorem bra (rel : Byte) : Statement (.bra rel) := of_op8 0x80 rfl rfl rfl rfl

theorem staDpXInd (dp : Byte) : Statement (.staDpXInd dp) := of_op8 0x81 rfl rfl rfl rfl

theorem brl (rel : Word) : Statement (.brl rel) := of_op16 0x82 rfl rfl rfl rfl

theorem staSr (sr : Byte) : Statement (.staSr sr) := of_op8 0x83 rfl rfl rfl rfl

theorem styDp (dp : Byte) : Statement (.styDp dp) := of_op8 0x84 rfl rfl rfl rfl

theorem staDp (dp : Byte) : Statement (.staDp dp) := of_op8 0x85 rfl rfl rfl rfl

theorem stxDp (dp : Byte) : Statement (.stxDp dp) := of_op8 0x86 rfl rfl rfl rfl

theorem staDpIndLong (dp : Byte) : Statement (.staDpIndLong dp) := of_op8 0x87 rfl rfl rfl rfl

theorem dey : Statement .dey := of_implied 0x88 rfl rfl rfl

theorem bitImm (v : Word) : Statement (.bitImm v) := of_immM 0x89 rfl rfl rfl rfl

theorem txa : Statement .txa := of_implied 0x8A rfl rfl rfl

theorem phb : Statement .phb := of_implied 0x8B rfl rfl rfl

theorem styAbs (addr : Word) : Statement (.styAbs addr) := of_op16 0x8C rfl rfl rfl rfl

theorem staAbs (addr : Word) : Statement (.staAbs addr) := of_op16 0x8D rfl rfl rfl rfl

theorem stxAbs (addr : Word) : Statement (.stxAbs addr) := of_op16 0x8E rfl rfl rfl rfl

theorem staLong (long : Addr) : Statement (.staLong long) := of_op24 0x8F rfl rfl rfl rfl

theorem bcc (rel : Byte) : Statement (.bcc rel) := of_op8 0x90 rfl rfl rfl rfl

theorem staDpIndY (dp : Byte) : Statement (.staDpIndY dp) := of_op8 0x91 rfl rfl rfl rfl

theorem staDpInd (dp : Byte) : Statement (.staDpInd dp) := of_op8 0x92 rfl rfl rfl rfl

theorem staSrIndY (sr : Byte) : Statement (.staSrIndY sr) := of_op8 0x93 rfl rfl rfl rfl

theorem styDpX (dp : Byte) : Statement (.styDpX dp) := of_op8 0x94 rfl rfl rfl rfl

theorem staDpX (dp : Byte) : Statement (.staDpX dp) := of_op8 0x95 rfl rfl rfl rfl

theorem stxDpY (dp : Byte) : Statement (.stxDpY dp) := of_op8 0x96 rfl rfl rfl rfl

theorem staDpIndLongY (dp : Byte) : Statement (.staDpIndLongY dp) := of_op8 0x97 rfl rfl rfl rfl

theorem tya : Statement .tya := of_implied 0x98 rfl rfl rfl

theorem staAbsY (addr : Word) : Statement (.staAbsY addr) := of_op16 0x99 rfl rfl rfl rfl

theorem txs : Statement .txs := of_implied 0x9A rfl rfl rfl

theorem txy : Statement .txy := of_implied 0x9B rfl rfl rfl

theorem stzAbs (addr : Word) : Statement (.stzAbs addr) := of_op16 0x9C rfl rfl rfl rfl

theorem staAbsX (addr : Word) : Statement (.staAbsX addr) := of_op16 0x9D rfl rfl rfl rfl

theorem stzAbsX (addr : Word) : Statement (.stzAbsX addr) := of_op16 0x9E rfl rfl rfl rfl

theorem staLongX (long : Addr) : Statement (.staLongX long) := of_op24 0x9F rfl rfl rfl rfl

theorem ldyImm (v : Word) : Statement (.ldyImm v) := of_immX 0xA0 rfl rfl rfl rfl

theorem ldaDpXInd (dp : Byte) : Statement (.ldaDpXInd dp) := of_op8 0xA1 rfl rfl rfl rfl

theorem ldxImm (v : Word) : Statement (.ldxImm v) := of_immX 0xA2 rfl rfl rfl rfl

theorem ldaSr (sr : Byte) : Statement (.ldaSr sr) := of_op8 0xA3 rfl rfl rfl rfl

theorem ldyDp (dp : Byte) : Statement (.ldyDp dp) := of_op8 0xA4 rfl rfl rfl rfl

theorem ldaDp (dp : Byte) : Statement (.ldaDp dp) := of_op8 0xA5 rfl rfl rfl rfl

theorem ldxDp (dp : Byte) : Statement (.ldxDp dp) := of_op8 0xA6 rfl rfl rfl rfl

theorem ldaDpIndLong (dp : Byte) : Statement (.ldaDpIndLong dp) := of_op8 0xA7 rfl rfl rfl rfl

theorem tay : Statement .tay := of_implied 0xA8 rfl rfl rfl

theorem ldaImm (v : Word) : Statement (.ldaImm v) := of_immM 0xA9 rfl rfl rfl rfl

theorem tax : Statement .tax := of_implied 0xAA rfl rfl rfl

theorem plb : Statement .plb := of_implied 0xAB rfl rfl rfl

theorem ldyAbs (addr : Word) : Statement (.ldyAbs addr) := of_op16 0xAC rfl rfl rfl rfl

theorem ldaAbs (addr : Word) : Statement (.ldaAbs addr) := of_op16 0xAD rfl rfl rfl rfl

theorem ldxAbs (addr : Word) : Statement (.ldxAbs addr) := of_op16 0xAE rfl rfl rfl rfl

theorem ldaLong (long : Addr) : Statement (.ldaLong long) := of_op24 0xAF rfl rfl rfl rfl

theorem bcs (rel : Byte) : Statement (.bcs rel) := of_op8 0xB0 rfl rfl rfl rfl

theorem ldaDpIndY (dp : Byte) : Statement (.ldaDpIndY dp) := of_op8 0xB1 rfl rfl rfl rfl

theorem ldaDpInd (dp : Byte) : Statement (.ldaDpInd dp) := of_op8 0xB2 rfl rfl rfl rfl

theorem ldaSrIndY (sr : Byte) : Statement (.ldaSrIndY sr) := of_op8 0xB3 rfl rfl rfl rfl

theorem ldyDpX (dp : Byte) : Statement (.ldyDpX dp) := of_op8 0xB4 rfl rfl rfl rfl

theorem ldaDpX (dp : Byte) : Statement (.ldaDpX dp) := of_op8 0xB5 rfl rfl rfl rfl

theorem ldxDpY (dp : Byte) : Statement (.ldxDpY dp) := of_op8 0xB6 rfl rfl rfl rfl

theorem ldaDpIndLongY (dp : Byte) : Statement (.ldaDpIndLongY dp) := of_op8 0xB7 rfl rfl rfl rfl

theorem clv : Statement .clv := of_implied 0xB8 rfl rfl rfl

theorem ldaAbsY (addr : Word) : Statement (.ldaAbsY addr) := of_op16 0xB9 rfl rfl rfl rfl

theorem tsx : Statement .tsx := of_implied 0xBA rfl rfl rfl

theorem tyx : Statement .tyx := of_implied 0xBB rfl rfl rfl

theorem ldyAbsX (addr : Word) : Statement (.ldyAbsX addr) := of_op16 0xBC rfl rfl rfl rfl

theorem ldaAbsX (addr : Word) : Statement (.ldaAbsX addr) := of_op16 0xBD rfl rfl rfl rfl

theorem ldxAbsY (addr : Word) : Statement (.ldxAbsY addr) := of_op16 0xBE rfl rfl rfl rfl

theorem ldaLongX (long : Addr) : Statement (.ldaLongX long) := of_op24 0xBF rfl rfl rfl rfl

theorem cpyImm (v : Word) : Statement (.cpyImm v) := of_immX 0xC0 rfl rfl rfl rfl

theorem cmpDpXInd (dp : Byte) : Statement (.cmpDpXInd dp) := of_op8 0xC1 rfl rfl rfl rfl

theorem rep (imm : Byte) : Statement (.rep imm) := of_op8 0xC2 rfl rfl rfl rfl

theorem cmpSr (sr : Byte) : Statement (.cmpSr sr) := of_op8 0xC3 rfl rfl rfl rfl

theorem cpyDp (dp : Byte) : Statement (.cpyDp dp) := of_op8 0xC4 rfl rfl rfl rfl

theorem cmpDp (dp : Byte) : Statement (.cmpDp dp) := of_op8 0xC5 rfl rfl rfl rfl

theorem decDp (dp : Byte) : Statement (.decDp dp) := of_op8 0xC6 rfl rfl rfl rfl

theorem cmpDpIndLong (dp : Byte) : Statement (.cmpDpIndLong dp) := of_op8 0xC7 rfl rfl rfl rfl

theorem iny : Statement .iny := of_implied 0xC8 rfl rfl rfl

theorem cmpImm (v : Word) : Statement (.cmpImm v) := of_immM 0xC9 rfl rfl rfl rfl

theorem dex : Statement .dex := of_implied 0xCA rfl rfl rfl

theorem wai : Statement .wai := of_implied 0xCB rfl rfl rfl

theorem cpyAbs (addr : Word) : Statement (.cpyAbs addr) := of_op16 0xCC rfl rfl rfl rfl

theorem cmpAbs (addr : Word) : Statement (.cmpAbs addr) := of_op16 0xCD rfl rfl rfl rfl

theorem decAbs (addr : Word) : Statement (.decAbs addr) := of_op16 0xCE rfl rfl rfl rfl

theorem cmpLong (long : Addr) : Statement (.cmpLong long) := of_op24 0xCF rfl rfl rfl rfl

theorem bne (rel : Byte) : Statement (.bne rel) := of_op8 0xD0 rfl rfl rfl rfl

theorem cmpDpIndY (dp : Byte) : Statement (.cmpDpIndY dp) := of_op8 0xD1 rfl rfl rfl rfl

theorem cmpDpInd (dp : Byte) : Statement (.cmpDpInd dp) := of_op8 0xD2 rfl rfl rfl rfl

theorem cmpSrIndY (sr : Byte) : Statement (.cmpSrIndY sr) := of_op8 0xD3 rfl rfl rfl rfl

theorem pei (dp : Byte) : Statement (.pei dp) := of_op8 0xD4 rfl rfl rfl rfl

theorem cmpDpX (dp : Byte) : Statement (.cmpDpX dp) := of_op8 0xD5 rfl rfl rfl rfl

theorem decDpX (dp : Byte) : Statement (.decDpX dp) := of_op8 0xD6 rfl rfl rfl rfl

theorem cmpDpIndLongY (dp : Byte) : Statement (.cmpDpIndLongY dp) := of_op8 0xD7 rfl rfl rfl rfl

theorem cld : Statement .cld := of_implied 0xD8 rfl rfl rfl

theorem cmpAbsY (addr : Word) : Statement (.cmpAbsY addr) := of_op16 0xD9 rfl rfl rfl rfl

theorem phx : Statement .phx := of_implied 0xDA rfl rfl rfl

theorem stp : Statement .stp := of_implied 0xDB rfl rfl rfl

theorem jmlAbsIndLong (addr : Word) : Statement (.jmlAbsIndLong addr) := of_op16 0xDC rfl rfl rfl rfl

theorem cmpAbsX (addr : Word) : Statement (.cmpAbsX addr) := of_op16 0xDD rfl rfl rfl rfl

theorem decAbsX (addr : Word) : Statement (.decAbsX addr) := of_op16 0xDE rfl rfl rfl rfl

theorem cmpLongX (long : Addr) : Statement (.cmpLongX long) := of_op24 0xDF rfl rfl rfl rfl

theorem cpxImm (v : Word) : Statement (.cpxImm v) := of_immX 0xE0 rfl rfl rfl rfl

theorem sbcDpXInd (dp : Byte) : Statement (.sbcDpXInd dp) := of_op8 0xE1 rfl rfl rfl rfl

theorem sep (imm : Byte) : Statement (.sep imm) := of_op8 0xE2 rfl rfl rfl rfl

theorem sbcSr (sr : Byte) : Statement (.sbcSr sr) := of_op8 0xE3 rfl rfl rfl rfl

theorem cpxDp (dp : Byte) : Statement (.cpxDp dp) := of_op8 0xE4 rfl rfl rfl rfl

theorem sbcDp (dp : Byte) : Statement (.sbcDp dp) := of_op8 0xE5 rfl rfl rfl rfl

theorem incDp (dp : Byte) : Statement (.incDp dp) := of_op8 0xE6 rfl rfl rfl rfl

theorem sbcDpIndLong (dp : Byte) : Statement (.sbcDpIndLong dp) := of_op8 0xE7 rfl rfl rfl rfl

theorem inx : Statement .inx := of_implied 0xE8 rfl rfl rfl

theorem sbcImm (v : Word) : Statement (.sbcImm v) := of_immM 0xE9 rfl rfl rfl rfl

theorem nop : Statement .nop := of_implied 0xEA rfl rfl rfl

theorem xba : Statement .xba := of_implied 0xEB rfl rfl rfl

theorem cpxAbs (addr : Word) : Statement (.cpxAbs addr) := of_op16 0xEC rfl rfl rfl rfl

theorem sbcAbs (addr : Word) : Statement (.sbcAbs addr) := of_op16 0xED rfl rfl rfl rfl

theorem incAbs (addr : Word) : Statement (.incAbs addr) := of_op16 0xEE rfl rfl rfl rfl

theorem sbcLong (long : Addr) : Statement (.sbcLong long) := of_op24 0xEF rfl rfl rfl rfl

theorem beq (rel : Byte) : Statement (.beq rel) := of_op8 0xF0 rfl rfl rfl rfl

theorem sbcDpIndY (dp : Byte) : Statement (.sbcDpIndY dp) := of_op8 0xF1 rfl rfl rfl rfl

theorem sbcDpInd (dp : Byte) : Statement (.sbcDpInd dp) := of_op8 0xF2 rfl rfl rfl rfl

theorem sbcSrIndY (sr : Byte) : Statement (.sbcSrIndY sr) := of_op8 0xF3 rfl rfl rfl rfl

theorem pea (addr : Word) : Statement (.pea addr) := of_op16 0xF4 rfl rfl rfl rfl

theorem sbcDpX (dp : Byte) : Statement (.sbcDpX dp) := of_op8 0xF5 rfl rfl rfl rfl

theorem incDpX (dp : Byte) : Statement (.incDpX dp) := of_op8 0xF6 rfl rfl rfl rfl

theorem sbcDpIndLongY (dp : Byte) : Statement (.sbcDpIndLongY dp) := of_op8 0xF7 rfl rfl rfl rfl

theorem sed : Statement .sed := of_implied 0xF8 rfl rfl rfl

theorem sbcAbsY (addr : Word) : Statement (.sbcAbsY addr) := of_op16 0xF9 rfl rfl rfl rfl

theorem plx : Statement .plx := of_implied 0xFA rfl rfl rfl

theorem xce : Statement .xce := of_implied 0xFB rfl rfl rfl

theorem jsrAbsXInd (addr : Word) : Statement (.jsrAbsXInd addr) := of_op16 0xFC rfl rfl rfl rfl

theorem sbcAbsX (addr : Word) : Statement (.sbcAbsX addr) := of_op16 0xFD rfl rfl rfl rfl

theorem incAbsX (addr : Word) : Statement (.incAbsX addr) := of_op16 0xFE rfl rfl rfl rfl

theorem sbcLongX (long : Addr) : Statement (.sbcLongX long) := of_op24 0xFF rfl rfl rfl rfl

end Sys2Proof.Laws.RoundTrip
end

