-- ==== Sys2Proof/Laws/Step.lean ====
section
/-! SUPPORT. Laws of `exec` and of the step: what every instruction and every agent of the frame schedule keeps. -/
namespace Sys2Proof.Machine

theorem State.sta_sound (s : State) (mode : MemMode) : s.Sound (s.sta mode) := s.storeTo_sound _ _ _

theorem State.stx_sound (s : State) (mode : MemMode) : s.Sound (s.stx mode) := s.storeTo_sound _ _ _

theorem State.sty_sound (s : State) (mode : MemMode) : s.Sound (s.sty mode) := s.storeTo_sound _ _ _

theorem State.stz_sound (s : State) (mode : MemMode) : s.Sound (s.stz mode) := s.storeTo_sound _ _ _

theorem State.cmp_sound (s : State) (mode : Mode) : s.Sound (s.cmp mode) := s.compare_sound _ _ _

theorem State.cpx_sound (s : State) (mode : Mode) : s.Sound (s.cpx mode) := s.compare_sound _ _ _

theorem State.cpy_sound (s : State) (mode : Mode) : s.Sound (s.cpy mode) := s.compare_sound _ _ _

theorem State.and_sound (s : State) (mode : Mode) : s.Sound (s.and mode) := s.logic_sound _ _

theorem State.ora_sound (s : State) (mode : Mode) : s.Sound (s.ora mode) := s.logic_sound _ _

theorem State.eor_sound (s : State) (mode : Mode) : s.Sound (s.eor mode) := s.logic_sound _ _

theorem State.pushAcc_sound (s : State) : s.Sound s.pushAcc := s.pushWidth_sound _ _

theorem State.pushIndex_sound (s : State) (v : Word) : s.Sound (s.pushIndex v) := s.pushWidth_sound _ _

/-- TXS and TCS: the page is kept in emulation mode (42_transfer.md R227, R228). -/
theorem Cpu.Inv.txsLike {c : Cpu} (h : c.Inv) (v : Word) : (if c.e then c.setSL (loByte v) else { c with s := v }).Inv := by
  split
  · exact h.withS fun he => by simp [(h.2 he).2.2]
  · rename_i hn
    exact h.withS fun he => absurd he hn

/-- What holds of the state an arm gives holds of the state `exec` answers. -/
theorem sound_of_next {s t u : State} (h : (.next u : Out) = .next t) (hu : s.Sound u) : s.Sound t :=
  Host.Outcome.next.inj h ▸ hu

/-- Every instruction keeps what `State.Sound` says. -/
theorem exec_sound {i : Instr} {s t : State} (h : exec i s = .next t) : s.Sound t := by
  cases i with
  | brk _ | cop _ =>
    exact sound_of_next h (s.interrupt_sound _)
  | oraDpXInd _ | oraSr _ | oraDp _ | oraDpIndLong _ | oraImm _ | oraAbs _ | oraLong _ | oraDpIndY _ | oraDpInd _ | oraSrIndY _ | oraDpX _ | oraDpIndLongY _ | oraAbsY _ | oraAbsX _ | oraLongX _ =>
    exact sound_of_next h (s.ora_sound _)
  | tsbDp _ | tsbAbs _ =>
    exact sound_of_next h (s.modifyAt_sound _ _ (tsbValue_widths _))
  | aslDp _ | aslAbs _ | aslDpX _ | aslAbsX _ =>
    exact sound_of_next h (s.modifyAt_sound _ _ (aslValue_widths _))
  | php | phk | phb =>
    exact sound_of_next h (s.push8_sound _)
  | aslAcc =>
    exact sound_of_next h (s.modifyAcc_sound (aslValue_widths _))
  | phd | per _ | pea _ =>
    exact sound_of_next h (s.pushNew_sound _)
  | bpl _ | bmi _ | bvc _ | bvs _ | bra _ | bcc _ | bcs _ | bne _ | beq _ =>
    exact sound_of_next h (s.branch_sound _ _)
  | trbDp _ | trbAbs _ =>
    exact sound_of_next h (s.modifyAt_sound _ _ (trbValue_widths _))
  | clc | sec | cli | sei | clv | cld | sed =>
    exact sound_of_next h (.cpuOnly fun h => h.setFlag _ _ (by decide) (by decide))
  | incAcc =>
    exact sound_of_next h (s.modifyAcc_sound (incValue_widths _))
  | tcs | txs =>
    exact sound_of_next h (.cpuOnly fun h => h.txsLike _)
  | jsrAbs _ =>
    exact sound_of_next h (s.callNear_sound _)
  | andDpXInd _ | andSr _ | andDp _ | andDpIndLong _ | andImm _ | andAbs _ | andLong _ | andDpIndY _ | andDpInd _ | andSrIndY _ | andDpX _ | andDpIndLongY _ | andAbsY _ | andAbsX _ | andLongX _ =>
    exact sound_of_next h (s.and_sound _)
  | jsl _ =>
    exact sound_of_next h (s.callLong_sound _)
  | bitDp _ | bitAbs _ | bitDpX _ | bitAbsX _ =>
    exact sound_of_next h (s.bit_sound _)
  | rolDp _ | rolAbs _ | rolDpX _ | rolAbsX _ =>
    exact sound_of_next h (s.modifyAt_sound _ _ (rolValue_widths _))
  | plp =>
    exact sound_of_next h (s.pullP_sound)
  | rolAcc =>
    exact sound_of_next h (s.modifyAcc_sound (rolValue_widths _))
  | pld =>
    exact sound_of_next h (s.pullDirect_sound)
  | decAcc =>
    exact sound_of_next h (s.modifyAcc_sound (decValue_widths _))
  | tsc | tcd | tdc | xba =>
    exact sound_of_next h (.cpuOnly fun h => Cpu.Inv.setNZ (h.congr rfl rfl rfl rfl rfl) _ _)
  | rti =>
    exact sound_of_next h (s.returnFromInterrupt_sound)
  | eorDpXInd _ | eorSr _ | eorDp _ | eorDpIndLong _ | eorImm _ | eorAbs _ | eorLong _ | eorDpIndY _ | eorDpInd _ | eorSrIndY _ | eorDpX _ | eorDpIndLongY _ | eorAbsY _ | eorAbsX _ | eorLongX _ =>
    exact sound_of_next h (s.eor_sound _)
  | wdm _ | nop =>
    exact sound_of_next h (.refl s)
  | mvp _ _ | mvn _ _ =>
    exact sound_of_next h (s.blockMove_sound _ _ _)
  | lsrDp _ | lsrAbs _ | lsrDpX _ | lsrAbsX _ =>
    exact sound_of_next h (s.modifyAt_sound _ _ (lsrValue_widths _))
  | pha =>
    exact sound_of_next h (s.pushAcc_sound)
  | lsrAcc =>
    exact sound_of_next h (s.modifyAcc_sound (lsrValue_widths _))
  | jmpAbs _ =>
    exact sound_of_next h (s.jump_sound _)
  | phy | phx =>
    exact sound_of_next h (s.pushIndex_sound _)
  | jmlLong _ =>
    exact sound_of_next h (s.jumpLong_sound _)
  | rts =>
    exact sound_of_next h (s.returnNear_sound)
  | adcDpXInd _ | adcSr _ | adcDp _ | adcDpIndLong _ | adcImm _ | adcAbs _ | adcLong _ | adcDpIndY _ | adcDpInd _ | adcSrIndY _ | adcDpX _ | adcDpIndLongY _ | adcAbsY _ | adcAbsX _ | adcLongX _ =>
    exact sound_of_next h (s.adc_sound _)
  | stzDp _ | stzDpX _ | stzAbs _ | stzAbsX _ =>
    exact sound_of_next h (s.stz_sound _)
  | rorDp _ | rorAbs _ | rorDpX _ | rorAbsX _ =>
    exact sound_of_next h (s.modifyAt_sound _ _ (rorValue_widths _))
  | pla =>
    exact sound_of_next h (s.pullAcc_sound)
  | rorAcc =>
    exact sound_of_next h (s.modifyAcc_sound (rorValue_widths _))
  | rtl =>
    exact sound_of_next h (s.returnLong_sound)
  | jmpAbsInd _ | jmpAbsXInd _ =>
    exact sound_of_next h (s.jumpThrough_sound _)
  | ply =>
    exact sound_of_next h (s.pullY_sound)
  | staDpXInd _ | staSr _ | staDp _ | staDpIndLong _ | staAbs _ | staLong _ | staDpIndY _ | staDpInd _ | staSrIndY _ | staDpX _ | staDpIndLongY _ | staAbsY _ | staAbsX _ | staLongX _ =>
    exact sound_of_next h (s.sta_sound _)
  | brl _ | wai | stp =>
    exact sound_of_next h (.cpuOnly fun h => h.congr rfl rfl rfl rfl rfl)
  | styDp _ | styAbs _ | styDpX _ =>
    exact sound_of_next h (s.sty_sound _)
  | stxDp _ | stxAbs _ | stxDpY _ =>
    exact sound_of_next h (s.stx_sound _)
  | dey | txy | tay | iny =>
    exact sound_of_next h (.cpuOnly fun h => (h.setY _).setNZ _ _)
  | bitImm _ =>
    exact sound_of_next h (s.bitImm_sound _)
  | txa | tya =>
    exact sound_of_next h (.cpuOnly fun h => (h.setAcc _).setNZ _ _)
  | ldyImm _ | ldyDp _ | ldyAbs _ | ldyDpX _ | ldyAbsX _ =>
    exact sound_of_next h (s.ldy_sound _)
  | ldaDpXInd _ | ldaSr _ | ldaDp _ | ldaDpIndLong _ | ldaImm _ | ldaAbs _ | ldaLong _ | ldaDpIndY _ | ldaDpInd _ | ldaSrIndY _ | ldaDpX _ | ldaDpIndLongY _ | ldaAbsY _ | ldaAbsX _ | ldaLongX _ =>
    exact sound_of_next h (s.lda_sound _)
  | ldxImm _ | ldxDp _ | ldxAbs _ | ldxDpY _ | ldxAbsY _ =>
    exact sound_of_next h (s.ldx_sound _)
  | tax | tsx | tyx | dex | inx =>
    exact sound_of_next h (.cpuOnly fun h => (h.setX _).setNZ _ _)
  | plb =>
    exact sound_of_next h (s.pullBank_sound)
  | cpyImm _ | cpyDp _ | cpyAbs _ =>
    exact sound_of_next h (s.cpy_sound _)
  | cmpDpXInd _ | cmpSr _ | cmpDp _ | cmpDpIndLong _ | cmpImm _ | cmpAbs _ | cmpLong _ | cmpDpIndY _ | cmpDpInd _ | cmpSrIndY _ | cmpDpX _ | cmpDpIndLongY _ | cmpAbsY _ | cmpAbsX _ | cmpLongX _ =>
    exact sound_of_next h (s.cmp_sound _)
  | rep _ | sep _ =>
    exact sound_of_next h (.cpuOnly fun h => h.setP _)
  | decDp _ | decAbs _ | decDpX _ | decAbsX _ =>
    exact sound_of_next h (s.modifyAt_sound _ _ (decValue_widths _))
  | pei _ =>
    exact sound_of_next h (s.pushIndirect_sound _)
  | jmlAbsIndLong _ =>
    exact sound_of_next h (s.jumpLongThrough_sound _)
  | cpxImm _ | cpxDp _ | cpxAbs _ =>
    exact sound_of_next h (s.cpx_sound _)
  | sbcDpXInd _ | sbcSr _ | sbcDp _ | sbcDpIndLong _ | sbcImm _ | sbcAbs _ | sbcLong _ | sbcDpIndY _ | sbcDpInd _ | sbcSrIndY _ | sbcDpX _ | sbcDpIndLongY _ | sbcAbsY _ | sbcAbsX _ | sbcLongX _ =>
    exact sound_of_next h (s.sbc_sound _)
  | incDp _ | incAbs _ | incDpX _ | incAbsX _ =>
    exact sound_of_next h (s.modifyAt_sound _ _ (incValue_widths _))
  | plx =>
    exact sound_of_next h (s.pullX_sound)
  | xce =>
    exact sound_of_next h (.cpuOnly fun h => Cpu.xce_inv h)
  | jsrAbsXInd _ =>
    exact sound_of_next h (s.callIndexed_sound _)

/-- Every instruction answers a next state (30_encoding.md R146). -/
theorem exec_total (i : Instr) (s : State) : ∃ t, exec i s = .next t := by
  cases i <;> exact ⟨_, rfl⟩

theorem State.fetchBytes_keeps (n : Nat) (s : State) : s.Keeps (State.fetchBytes n s).st := by
  induction n generalizing s with
  | zero => exact .refl s
  | succ n ih => exact s.fetch8_keeps.trans (ih s.fetch8.st)

/-- Fetching moves PC and no other register. -/
theorem State.fetchBytes_cpu (n : Nat) (s : State) :
    (State.fetchBytes n s).st.cpu = { s.cpu with pc := s.cpu.pc + BitVec.ofNat 16 n } := by
  induction n generalizing s with
  | zero => simp [State.fetchBytes]
  | succ n ih =>
    show (State.fetchBytes n s.fetch8.st).st.cpu = _
    rw [ih, State.fetch8_cpu]
    have : (1 : Word) + BitVec.ofNat 16 n = BitVec.ofNat 16 (n + 1) := by
      rw [Nat.add_comm]; exact (BitVec.ofNat_add (n := 16) 1 n).symm
    simp only [BitVec.add_assoc, this]

theorem State.fetchInstr_keeps (s : State) : s.Keeps s.fetchInstr.st :=
  s.fetch8_keeps.trans (State.fetchBytes_keeps _ _)

theorem State.fetchInstr_inv (s : State) (h : s.cpu.Inv) : s.fetchInstr.st.cpu.Inv := by
  unfold State.fetchInstr
  dsimp only
  rw [State.fetchBytes_cpu]
  exact h.congr rfl rfl rfl rfl rfl

theorem State.runInstr_sound {s t : State} (h : s.runInstr = .next t) : s.Sound t :=
  let e := exec_sound h
  ⟨s.fetchInstr_keeps.trans e.keeps, fun hi => e.inv (s.fetchInstr_inv hi)⟩

/-- What a step of the processor keeps. -/
theorem State.cpuStep_keeps {s t : State} (h : s.cpuStep = .next t) :
    s.bus.Keeps t.bus ∧ (s.cpu.Inv → t.cpu.Inv) ∧ t.frame = s.frame := by
  unfold State.cpuStep at h
  split at h
  · obtain rfl := Host.Outcome.next.inj h
    exact ⟨(State.resetSequence_keeps _).bus, fun _ => State.resetSequence_inv _, (State.resetSequence_keeps _).frame⟩
  split at h
  · obtain rfl := Host.Outcome.next.inj h
    exact ⟨.refl _, id, rfl⟩
  split at h
  · obtain rfl := Host.Outcome.next.inj h
    have k := (s.ackNmi.withRun .running).interrupt_keeps .nmi
    exact ⟨Bus.Keeps.trans (b' := s.ackNmi.bus) (.of_stores rfl rfl rfl rfl) k.bus,
      fun hi => State.interrupt_inv _ _ (hi.congr rfl rfl rfl rfl rfl), k.frame⟩
  split at h
  · obtain rfl := Host.Outcome.next.inj h
    have k := (s.withRun .running).interrupt_keeps .irq
    exact ⟨k.bus, fun hi => State.interrupt_inv _ _ (hi.congr rfl rfl rfl rfl rfl), k.frame⟩
  split at h
  · split at h
    · have k := State.runInstr_sound h
      exact ⟨k.keeps.bus, fun hi => k.inv (hi.congr rfl rfl rfl rfl rfl), k.keeps.frame⟩
    · obtain rfl := Host.Outcome.next.inj h
      exact ⟨.refl _, id, rfl⟩
  · have k := State.runInstr_sound h
    exact ⟨k.keeps.bus, k.inv, k.keeps.frame⟩

/-- A step of the processor answers a next state. -/
theorem State.cpuStep_total (s : State) : ∃ t, s.cpuStep = .next t := by
  unfold State.cpuStep
  repeat' split
  all_goals first
    | exact ⟨_, rfl⟩
    | exact exec_total _ _

theorem Bus.dmaPhase_keeps (b : Bus) (y : Nat) : b.Keeps (b.dmaPhase y) := by
  have h1 : b.Keeps b.runPending := by
    unfold Bus.runPending
    split
    · exact .refl b
    · exact Bus.Keeps.trans (b' := { b with dmaPending := [] }) (.of_stores rfl rfl rfl rfl) (Bus.runDmaMasks_keeps _ _)
  unfold Bus.dmaPhase
  dsimp only
  split
  · exact h1.trans (Bus.Keeps.trans (.ite (Bus.hdmaInitMask_keeps _ _) (.refl _)) (Bus.hdmaLines_keeps _))
  · exact h1

theorem Bus.ppuPhase_keeps (b : Bus) (y : Nat) : b.Keeps (b.ppuPhase y) := by
  unfold Bus.ppuPhase
  dsimp only
  split <;> split <;> exact .of_stores rfl rfl rfl rfl

/-- The agents that act after a slice keep the parameters, the cartridge and the form of the stores. -/
theorem Bus.endLine_keeps (b : Bus) (y : Nat) : b.Keeps (b.endLine y) :=
  (b.dmaPhase_keeps y).trans ((Bus.ppuPhase_keeps _ y).trans (.of_stores rfl rfl rfl rfl))

theorem State.startLine_keeps (s : State) (y : Nat) : s.bus.Keeps (s.startLine y).bus := by
  unfold State.startLine
  dsimp only
  split <;> exact .of_stores rfl rfl rfl rfl

theorem State.nextLine_keeps (s : State) (y : Nat) : s.bus.Keeps (s.nextLine y).bus := by
  unfold State.nextLine
  split
  · exact s.startLine_keeps _
  · exact .refl _

@[simp] theorem State.nextLine_cpu (s : State) (y : Nat) : (s.nextLine y).cpu = s.cpu := by
  unfold State.nextLine
  split <;> rfl

end Sys2Proof.Machine
end

