-- ==== Sys2Proof/Machine/Cycles.lean ====
section
/-! DEFINITION. The informative cycle count a CPU step reports (70_reset_and_hazards.md R510, R511; 40_addressing.md R198). No state depends on it. -/
namespace Sys2Proof.Machine

/-- An adjustment of a base count (70_reset_and_hazards.md R511). -/
inductive Adj where
  /-- `m`: +1 if m = 16. -/
  | accum
  /-- `M`: +2 if m = 16. -/
  | modify
  /-- `x`: +1 if x = 16. -/
  | index
  /-- `d`: +1 if DL is not 0. -/
  | direct
  /-- `p`: +1 if x = 16 or the index crosses a page. -/
  | page
  /-- `b`: +1 if taken, +1 more if E = 1 and the taken branch crosses a page. -/
  | branch
  /-- `e`: +1 if E = 1 and the branch crosses a page. -/
  | far
  /-- `n`: +1 if E = 0. -/
  | native
  deriving DecidableEq, Repr

/-- A cell of the cycle table: the base count and its adjustments. The letter `v` (per byte moved) adds nothing to a step. -/
structure Cost where
  base : Nat
  adj : List Adj
  deriving DecidableEq, Repr

/-- Row 0 of the cycle table (70_reset_and_hazards.md R511). -/
def cycles0 : List Cost :=
  [⟨7, [.native]⟩, ⟨6, [.accum, .direct]⟩, ⟨7, [.native]⟩, ⟨4, [.accum]⟩, ⟨5, [.modify, .direct]⟩,
   ⟨3, [.accum, .direct]⟩, ⟨5, [.modify, .direct]⟩, ⟨6, [.accum, .direct]⟩, ⟨3, []⟩, ⟨2, [.accum]⟩, ⟨2, []⟩,
   ⟨4, []⟩, ⟨6, [.modify]⟩, ⟨4, [.accum]⟩, ⟨6, [.modify]⟩, ⟨5, [.accum]⟩]

/-- Row 1 of the cycle table (70_reset_and_hazards.md R511). -/
def cycles1 : List Cost :=
  [⟨2, [.branch]⟩, ⟨5, [.accum, .direct, .page]⟩, ⟨5, [.accum, .direct]⟩, ⟨7, [.accum]⟩,
   ⟨5, [.modify, .direct]⟩, ⟨4, [.accum, .direct]⟩, ⟨6, [.modify, .direct]⟩, ⟨6, [.accum, .direct]⟩, ⟨2, []⟩,
   ⟨4, [.accum, .page]⟩, ⟨2, []⟩, ⟨2, []⟩, ⟨6, [.modify]⟩, ⟨4, [.accum, .page]⟩, ⟨7, [.modify]⟩, ⟨5, [.accum]⟩]

/-- Row 2 of the cycle table (70_reset_and_hazards.md R511). -/
def cycles2 : List Cost :=
  [⟨6, []⟩, ⟨6, [.accum, .direct]⟩, ⟨8, []⟩, ⟨4, [.accum]⟩, ⟨3, [.accum, .direct]⟩, ⟨3, [.accum, .direct]⟩,
   ⟨5, [.modify, .direct]⟩, ⟨6, [.accum, .direct]⟩, ⟨4, []⟩, ⟨2, [.accum]⟩, ⟨2, []⟩, ⟨5, []⟩, ⟨4, [.accum]⟩,
   ⟨4, [.accum]⟩, ⟨6, [.modify]⟩, ⟨5, [.accum]⟩]

/-- Row 3 of the cycle table (70_reset_and_hazards.md R511). -/
def cycles3 : List Cost :=
  [⟨2, [.branch]⟩, ⟨5, [.accum, .direct, .page]⟩, ⟨5, [.accum, .direct]⟩, ⟨7, [.accum]⟩,
   ⟨4, [.accum, .direct]⟩, ⟨4, [.accum, .direct]⟩, ⟨6, [.modify, .direct]⟩, ⟨6, [.accum, .direct]⟩, ⟨2, []⟩,
   ⟨4, [.accum, .page]⟩, ⟨2, []⟩, ⟨2, []⟩, ⟨4, [.accum, .page]⟩, ⟨4, [.accum, .page]⟩, ⟨7, [.modify]⟩,
   ⟨5, [.accum]⟩]

/-- Row 4 of the cycle table (70_reset_and_hazards.md R511). -/
def cycles4 : List Cost :=
  [⟨6, [.native]⟩, ⟨6, [.accum, .direct]⟩, ⟨2, []⟩, ⟨4, [.accum]⟩, ⟨7, []⟩, ⟨3, [.accum, .direct]⟩,
   ⟨5, [.modify, .direct]⟩, ⟨6, [.accum, .direct]⟩, ⟨3, [.accum]⟩, ⟨2, [.accum]⟩, ⟨2, []⟩, ⟨3, []⟩, ⟨3, []⟩,
   ⟨4, [.accum]⟩, ⟨6, [.modify]⟩, ⟨5, [.accum]⟩]

/-- Row 5 of the cycle table (70_reset_and_hazards.md R511). -/
def cycles5 : List Cost :=
  [⟨2, [.branch]⟩, ⟨5, [.accum, .direct, .page]⟩, ⟨5, [.accum, .direct]⟩, ⟨7, [.accum]⟩, ⟨7, []⟩,
   ⟨4, [.accum, .direct]⟩, ⟨6, [.modify, .direct]⟩, ⟨6, [.accum, .direct]⟩, ⟨2, []⟩, ⟨4, [.accum, .page]⟩,
   ⟨3, [.index]⟩, ⟨2, []⟩, ⟨4, []⟩, ⟨4, [.accum, .page]⟩, ⟨7, [.modify]⟩, ⟨5, [.accum]⟩]

/-- Row 6 of the cycle table (70_reset_and_hazards.md R511). -/
def cycles6 : List Cost :=
  [⟨6, []⟩, ⟨6, [.accum, .direct]⟩, ⟨6, []⟩, ⟨4, [.accum]⟩, ⟨3, [.accum, .direct]⟩, ⟨3, [.accum, .direct]⟩,
   ⟨5, [.modify, .direct]⟩, ⟨6, [.accum, .direct]⟩, ⟨4, [.accum]⟩, ⟨2, [.accum]⟩, ⟨2, []⟩, ⟨6, []⟩, ⟨5, []⟩,
   ⟨4, [.accum]⟩, ⟨6, [.modify]⟩, ⟨5, [.accum]⟩]

/-- Row 7 of the cycle table (70_reset_and_hazards.md R511). -/
def cycles7 : List Cost :=
  [⟨2, [.branch]⟩, ⟨5, [.accum, .direct, .page]⟩, ⟨5, [.accum, .direct]⟩, ⟨7, [.accum]⟩,
   ⟨4, [.accum, .direct]⟩, ⟨4, [.accum, .direct]⟩, ⟨6, [.modify, .direct]⟩, ⟨6, [.accum, .direct]⟩, ⟨2, []⟩,
   ⟨4, [.accum, .page]⟩, ⟨4, [.index]⟩, ⟨2, []⟩, ⟨6, []⟩, ⟨4, [.accum, .page]⟩, ⟨7, [.modify]⟩, ⟨5, [.accum]⟩]

/-- Row 8 of the cycle table (70_reset_and_hazards.md R511). -/
def cycles8 : List Cost :=
  [⟨3, [.far]⟩, ⟨6, [.accum, .direct]⟩, ⟨4, []⟩, ⟨4, [.accum]⟩, ⟨3, [.index, .direct]⟩, ⟨3, [.accum, .direct]⟩,
   ⟨3, [.index, .direct]⟩, ⟨6, [.accum, .direct]⟩, ⟨2, []⟩, ⟨2, [.accum]⟩, ⟨2, []⟩, ⟨3, []⟩, ⟨4, [.index]⟩,
   ⟨4, [.accum]⟩, ⟨4, [.index]⟩, ⟨5, [.accum]⟩]

/-- Row 9 of the cycle table (70_reset_and_hazards.md R511). -/
def cycles9 : List Cost :=
  [⟨2, [.branch]⟩, ⟨6, [.accum, .direct]⟩, ⟨5, [.accum, .direct]⟩, ⟨7, [.accum]⟩, ⟨4, [.index, .direct]⟩,
   ⟨4, [.accum, .direct]⟩, ⟨4, [.index, .direct]⟩, ⟨6, [.accum, .direct]⟩, ⟨2, []⟩, ⟨5, [.accum]⟩, ⟨2, []⟩,
   ⟨2, []⟩, ⟨4, [.accum]⟩, ⟨5, [.accum]⟩, ⟨5, [.accum]⟩, ⟨5, [.accum]⟩]

/-- Row A of the cycle table (70_reset_and_hazards.md R511). -/
def cyclesA : List Cost :=
  [⟨2, [.index]⟩, ⟨6, [.accum, .direct]⟩, ⟨2, [.index]⟩, ⟨4, [.accum]⟩, ⟨3, [.index, .direct]⟩,
   ⟨3, [.accum, .direct]⟩, ⟨3, [.index, .direct]⟩, ⟨6, [.accum, .direct]⟩, ⟨2, []⟩, ⟨2, [.accum]⟩, ⟨2, []⟩,
   ⟨4, []⟩, ⟨4, [.index]⟩, ⟨4, [.accum]⟩, ⟨4, [.index]⟩, ⟨5, [.accum]⟩]

/-- Row B of the cycle table (70_reset_and_hazards.md R511). -/
def cyclesB : List Cost :=
  [⟨2, [.branch]⟩, ⟨5, [.accum, .direct, .page]⟩, ⟨5, [.accum, .direct]⟩, ⟨7, [.accum]⟩,
   ⟨4, [.index, .direct]⟩, ⟨4, [.accum, .direct]⟩, ⟨4, [.index, .direct]⟩, ⟨6, [.accum, .direct]⟩, ⟨2, []⟩,
   ⟨4, [.accum, .page]⟩, ⟨2, []⟩, ⟨2, []⟩, ⟨4, [.index, .page]⟩, ⟨4, [.accum, .page]⟩, ⟨4, [.index, .page]⟩,
   ⟨5, [.accum]⟩]

/-- Row C of the cycle table (70_reset_and_hazards.md R511). -/
def cyclesC : List Cost :=
  [⟨2, [.index]⟩, ⟨6, [.accum, .direct]⟩, ⟨3, []⟩, ⟨4, [.accum]⟩, ⟨3, [.index, .direct]⟩,
   ⟨3, [.accum, .direct]⟩, ⟨5, [.modify, .direct]⟩, ⟨6, [.accum, .direct]⟩, ⟨2, []⟩, ⟨2, [.accum]⟩, ⟨2, []⟩,
   ⟨3, []⟩, ⟨4, [.index]⟩, ⟨4, [.accum]⟩, ⟨6, [.modify]⟩, ⟨5, [.accum]⟩]

/-- Row D of the cycle table (70_reset_and_hazards.md R511). -/
def cyclesD : List Cost :=
  [⟨2, [.branch]⟩, ⟨5, [.accum, .direct, .page]⟩, ⟨5, [.accum, .direct]⟩, ⟨7, [.accum]⟩, ⟨6, [.direct]⟩,
   ⟨4, [.accum, .direct]⟩, ⟨6, [.modify, .direct]⟩, ⟨6, [.accum, .direct]⟩, ⟨2, []⟩, ⟨4, [.accum, .page]⟩,
   ⟨3, [.index]⟩, ⟨3, []⟩, ⟨6, []⟩, ⟨4, [.accum, .page]⟩, ⟨7, [.modify]⟩, ⟨5, [.accum]⟩]

/-- Row E of the cycle table (70_reset_and_hazards.md R511). -/
def cyclesE : List Cost :=
  [⟨2, [.index]⟩, ⟨6, [.accum, .direct]⟩, ⟨3, []⟩, ⟨4, [.accum]⟩, ⟨3, [.index, .direct]⟩,
   ⟨3, [.accum, .direct]⟩, ⟨5, [.modify, .direct]⟩, ⟨6, [.accum, .direct]⟩, ⟨2, []⟩, ⟨2, [.accum]⟩, ⟨2, []⟩,
   ⟨3, []⟩, ⟨4, [.index]⟩, ⟨4, [.accum]⟩, ⟨6, [.modify]⟩, ⟨5, [.accum]⟩]

/-- Row F of the cycle table (70_reset_and_hazards.md R511). -/
def cyclesF : List Cost :=
  [⟨2, [.branch]⟩, ⟨5, [.accum, .direct, .page]⟩, ⟨5, [.accum, .direct]⟩, ⟨7, [.accum]⟩, ⟨5, []⟩,
   ⟨4, [.accum, .direct]⟩, ⟨6, [.modify, .direct]⟩, ⟨6, [.accum, .direct]⟩, ⟨2, []⟩, ⟨4, [.accum, .page]⟩,
   ⟨4, [.index]⟩, ⟨2, []⟩, ⟨8, []⟩, ⟨4, [.accum, .page]⟩, ⟨7, [.modify]⟩, ⟨5, [.accum]⟩]

/-- The cycle table of 70_reset_and_hazards.md R511, one row for each high nibble. -/
def cycleMap : List (List Cost) :=
  [cycles0, cycles1, cycles2, cycles3, cycles4, cycles5, cycles6, cycles7,
   cycles8, cycles9, cyclesA, cyclesB, cyclesC, cyclesD, cyclesE, cyclesF]

/-- The cell of an opcode. -/
def cycleCost (op : Byte) : Cost := (cycleMap.getD (op.toNat / 16) []).getD (op.toNat % 16) ⟨0, []⟩

/-- An indexed address leaves the page of its base (40_addressing.md R198). -/
def crossesPage (base : Addr) (index : Word) : Bool := !((base + index.setWidth 24) >>> 8 == base >>> 8)

/-- The indexed read of the instruction with this opcode and operand crosses a page (40_addressing.md R198): Absolute,X
(low bits 11100, 11101), Absolute,Y (11001, 11110 of LDX) and Direct Indirect,Y (10001). -/
def State.indexCrosses (s : State) (op : Byte) (operand : Operand) : Bool :=
  match operand with
  | .word addr =>
    let base := mkAddr s.cpu.db addr
    if op &&& 0x1F == 0x19 || op == 0xBE then crossesPage base s.cpu.y else crossesPage base s.cpu.x
  | .byte dp => crossesPage (mkAddr s.cpu.db (s.load16 (.dir (zext dp))).v) s.cpu.y
  | _ => false

/-- The condition of the branch with this opcode (45_control.md R281 to R289). -/
def Cpu.branchTaken (c : Cpu) (op : Byte) : Bool :=
  match op.toNat with
  | 0x10 => !c.flag .n
  | 0x30 => c.flag .n
  | 0x50 => !c.flag .v
  | 0x70 => c.flag .v
  | 0x90 => !c.flag .c
  | 0xB0 => c.flag .c
  | 0xD0 => !c.flag .z
  | 0xF0 => c.flag .z
  | _ => true

/-- A branch from next-instruction offset `pc` leaves its page (40_addressing.md R198). -/
def branchCrosses (pc : Word) (operand : Operand) : Bool :=
  match operand with
  | .byte rel => !(hiByte (pc + sext rel) == hiByte pc)
  | _ => false

/-- What an adjustment adds, in the state after the operand bytes are fetched (70_reset_and_hazards.md R511). -/
def State.adjust (s : State) (op : Byte) (operand : Operand) (a : Adj) : Nat :=
  match a with
  | .accum => if s.cpu.flag .m then 0 else 1
  | .modify => if s.cpu.flag .m then 0 else 2
  | .index => if s.cpu.flag .x then 0 else 1
  | .direct => if loByte s.cpu.d == 0 then 0 else 1
  | .page => if !s.cpu.flag .x || s.indexCrosses op operand then 1 else 0
  | .branch =>
    if s.cpu.branchTaken op then (if s.cpu.e && branchCrosses s.cpu.pc operand then 2 else 1) else 0
  | .far => if s.cpu.e && branchCrosses s.cpu.pc operand then 1 else 0
  | .native => if s.cpu.e then 0 else 1

/-- The count of a fetched instruction. -/
def State.instrCycles (s : State) (i : Instr) : Nat :=
  let c := cycleCost i.opcode
  c.base + (c.adj.map (s.adjust i.opcode i.operand)).sum

/-- `cycles_consumed` of the step a state is about to take (70_reset_and_hazards.md R511), less what a general DMA adds,
which the spec does not give (log 18). -/
def State.stepCycles (s : State) : Nat :=
  let entry := if s.cpu.e then 7 else 8
  let run := let f := s.fetchInstr; f.st.instrCycles f.instr
  if s.resetRequest then 1
  else if s.cpu.run = .stopped then 1
  else if s.bus.nmiPending then entry
  else if s.irqTaken then entry
  else if s.cpu.run = .waiting then (if s.bus.irqLine then run else 1)
  else run

end Sys2Proof.Machine
end

