-- ==== Sys2Proof/Tests/Slice0.lean ====
section
/-! SUPPORT. The model's own tests: the decoding of a written-out word for every constructor, one step of every instruction on the spec's own examples, and for every statement with hypotheses a state that meets them. -/
namespace Sys2Proof.Tests
open Sys2Proof.Machine Sys2Proof.Claims

/-- The starting state of 95_test_vectors.md section 0, with the registers changed by `f` and bytes placed. -/
def vec (f : Cpu → Cpu) (l : List (Byte × Word × List Byte)) : State :=
  { State.reset with
    cpu := f { State.reset.cpu with e := false, p := 0x30, s := 0x01FF, pc := 0x8000 }
    bus := l.foldl (fun b x => Bus.placeAll x.1 x.2.1 x.2.2 b) State.reset.bus }

/-- A state with another bus. -/
def onBus (s : State) (f : Bus → Bus) : State := { s with bus := f s.bus }

/-- The state after one step. -/
def after (s : State) : State :=
  match step s with
  | .next t => t
  | .fault _ => s
  | .refused _ => s

/-! Well-formedness: an immediate wider than its width is refused, one that fits is not. -/

theorem test_wellFormed_immM : (Instr.ldaImm 0x0100).wellFormed .b8 .b16 = false := by decide
theorem test_wellFormed_immX : (Instr.ldxImm 0xFFFF).wellFormed .b16 .b8 = false := by decide
theorem test_wellFormed_immM_fits :
    (Instr.ldaImm 0x00FF).wellFormed .b8 .b8 = true ∧ (Instr.ldaImm 0x0100).wellFormed .b16 .b8 = true := by decide
theorem test_wellFormed_immX_fits :
    (Instr.ldxImm 0x00FF).wellFormed .b8 .b8 = true ∧ (Instr.ldxImm 0xFFFF).wellFormed .b8 .b16 = true := by decide


/-! Decoding: for every row of spec/opcode_table.json its opcode byte and the operand bytes of its format (30_encoding.md R140, R144),
written out. Source: the opcode map of R145 and the syntax table of R148. -/

theorem test_decode_row_0 :
    decode .b8 .b8 [0x00, 0x12] = .ok (.brk 0x12, []) ∧
    decode .b8 .b8 [0x01, 0x12] = .ok (.oraDpXInd 0x12, []) ∧
    decode .b8 .b8 [0x02, 0x12] = .ok (.cop 0x12, []) ∧
    decode .b8 .b8 [0x03, 0x12] = .ok (.oraSr 0x12, []) ∧
    decode .b8 .b8 [0x04, 0x12] = .ok (.tsbDp 0x12, []) ∧
    decode .b8 .b8 [0x05, 0x12] = .ok (.oraDp 0x12, []) ∧
    decode .b8 .b8 [0x06, 0x12] = .ok (.aslDp 0x12, []) ∧
    decode .b8 .b8 [0x07, 0x12] = .ok (.oraDpIndLong 0x12, []) ∧
    decode .b8 .b8 [0x08] = .ok (.php, []) ∧
    decode .b8 .b8 [0x09, 0x34] = .ok (.oraImm 0x34, []) ∧
    decode .b8 .b8 [0x0A] = .ok (.aslAcc, []) ∧
    decode .b8 .b8 [0x0B] = .ok (.phd, []) ∧
    decode .b8 .b8 [0x0C, 0x34, 0x12] = .ok (.tsbAbs 0x1234, []) ∧
    decode .b8 .b8 [0x0D, 0x34, 0x12] = .ok (.oraAbs 0x1234, []) ∧
    decode .b8 .b8 [0x0E, 0x34, 0x12] = .ok (.aslAbs 0x1234, []) ∧
    decode .b8 .b8 [0x0F, 0x56, 0x34, 0x12] = .ok (.oraLong 0x123456, []) :=
  ⟨rfl, rfl, rfl, rfl, rfl, rfl, rfl, rfl, rfl, rfl, rfl, rfl, rfl, rfl, rfl, rfl⟩

theorem test_decode_row_1 :
    decode .b8 .b8 [0x10, 0x12] = .ok (.bpl 0x12, []) ∧
    decode .b8 .b8 [0x11, 0x12] = .ok (.oraDpIndY 0x12, []) ∧
    decode .b8 .b8 [0x12, 0x12] = .ok (.oraDpInd 0x12, []) ∧
    decode .b8 .b8 [0x13, 0x12] = .ok (.oraSrIndY 0x12, []) ∧
    decode .b8 .b8 [0x14, 0x12] = .ok (.trbDp 0x12, []) ∧
    decode .b8 .b8 [0x15, 0x12] = .ok (.oraDpX 0x12, []) ∧
    decode .b8 .b8 [0x16, 0x12] = .ok (.aslDpX 0x12, []) ∧
    decode .b8 .b8 [0x17, 0x12] = .ok (.oraDpIndLongY 0x12, []) ∧
    decode .b8 .b8 [0x18] = .ok (.clc, []) ∧
    decode .b8 .b8 [0x19, 0x34, 0x12] = .ok (.oraAbsY 0x1234, []) ∧
    decode .b8 .b8 [0x1A] = .ok (.incAcc, []) ∧
    decode .b8 .b8 [0x1B] = .ok (.tcs, []) ∧
    decode .b8 .b8 [0x1C, 0x34, 0x12] = .ok (.trbAbs 0x1234, []) ∧
    decode .b8 .b8 [0x1D, 0x34, 0x12] = .ok (.oraAbsX 0x1234, []) ∧
    decode .b8 .b8 [0x1E, 0x34, 0x12] = .ok (.aslAbsX 0x1234, []) ∧
    decode .b8 .b8 [0x1F, 0x56, 0x34, 0x12] = .ok (.oraLongX 0x123456, []) :=
  ⟨rfl, rfl, rfl, rfl, rfl, rfl, rfl, rfl, rfl, rfl, rfl, rfl, rfl, rfl, rfl, rfl⟩

theorem test_decode_row_2 :
    decode .b8 .b8 [0x20, 0x34, 0x12] = .ok (.jsrAbs 0x1234, []) ∧
    decode .b8 .b8 [0x21, 0x12] = .ok (.andDpXInd 0x12, []) ∧
    decode .b8 .b8 [0x22, 0x56, 0x34, 0x12] = .ok (.jsl 0x123456, []) ∧
    decode .b8 .b8 [0x23, 0x12] = .ok (.andSr 0x12, []) ∧
    decode .b8 .b8 [0x24, 0x12] = .ok (.bitDp 0x12, []) ∧
    decode .b8 .b8 [0x25, 0x12] = .ok (.andDp 0x12, []) ∧
    decode .b8 .b8 [0x26, 0x12] = .ok (.rolDp 0x12, []) ∧
    decode .b8 .b8 [0x27, 0x12] = .ok (.andDpIndLong 0x12, []) ∧
    decode .b8 .b8 [0x28] = .ok (.plp, []) ∧
    decode .b8 .b8 [0x29, 0x34] = .ok (.andImm 0x34, []) ∧
    decode .b8 .b8 [0x2A] = .ok (.rolAcc, []) ∧
    decode .b8 .b8 [0x2B] = .ok (.pld, []) ∧
    decode .b8 .b8 [0x2C, 0x34, 0x12] = .ok (.bitAbs 0x1234, []) ∧
    decode .b8 .b8 [0x2D, 0x34, 0x12] = .ok (.andAbs 0x1234, []) ∧
    decode .b8 .b8 [0x2E, 0x34, 0x12] = .ok (.rolAbs 0x1234, []) ∧
    decode .b8 .b8 [0x2F, 0x56, 0x34, 0x12] = .ok (.andLong 0x123456, []) :=
  ⟨rfl, rfl, rfl, rfl, rfl, rfl, rfl, rfl, rfl, rfl, rfl, rfl, rfl, rfl, rfl, rfl⟩

theorem test_decode_row_3 :
    decode .b8 .b8 [0x30, 0x12] = .ok (.bmi 0x12, []) ∧
    decode .b8 .b8 [0x31, 0x12] = .ok (.andDpIndY 0x12, []) ∧
    decode .b8 .b8 [0x32, 0x12] = .ok (.andDpInd 0x12, []) ∧
    decode .b8 .b8 [0x33, 0x12] = .ok (.andSrIndY 0x12, []) ∧
    decode .b8 .b8 [0x34, 0x12] = .ok (.bitDpX 0x12, []) ∧
    decode .b8 .b8 [0x35, 0x12] = .ok (.andDpX 0x12, []) ∧
    decode .b8 .b8 [0x36, 0x12] = .ok (.rolDpX 0x12, []) ∧
    decode .b8 .b8 [0x37, 0x12] = .ok (.andDpIndLongY 0x12, []) ∧
    decode .b8 .b8 [0x38] = .ok (.sec, []) ∧
    decode .b8 .b8 [0x39, 0x34, 0x12] = .ok (.andAbsY 0x1234, []) ∧
    decode .b8 .b8 [0x3A] = .ok (.decAcc, []) ∧
    decode .b8 .b8 [0x3B] = .ok (.tsc, []) ∧
    decode .b8 .b8 [0x3C, 0x34, 0x12] = .ok (.bitAbsX 0x1234, []) ∧
    decode .b8 .b8 [0x3D, 0x34, 0x12] = .ok (.andAbsX 0x1234, []) ∧
    decode .b8 .b8 [0x3E, 0x34, 0x12] = .ok (.rolAbsX 0x1234, []) ∧
    decode .b8 .b8 [0x3F, 0x56, 0x34, 0x12] = .ok (.andLongX 0x123456, []) :=
  ⟨rfl, rfl, rfl, rfl, rfl, rfl, rfl, rfl, rfl, rfl, rfl, rfl, rfl, rfl, rfl, rfl⟩

theorem test_decode_row_4 :
    decode .b8 .b8 [0x40] = .ok (.rti, []) ∧
    decode .b8 .b8 [0x41, 0x12] = .ok (.eorDpXInd 0x12, []) ∧
    decode .b8 .b8 [0x42, 0x12] = .ok (.wdm 0x12, []) ∧
    decode .b8 .b8 [0x43, 0x12] = .ok (.eorSr 0x12, []) ∧
    decode .b8 .b8 [0x44, 0x7E, 0x12] = .ok (.mvp 0x7E 0x12, []) ∧
    decode .b8 .b8 [0x45, 0x12] = .ok (.eorDp 0x12, []) ∧
    decode .b8 .b8 [0x46, 0x12] = .ok (.lsrDp 0x12, []) ∧
    decode .b8 .b8 [0x47, 0x12] = .ok (.eorDpIndLong 0x12, []) ∧
    decode .b8 .b8 [0x48] = .ok (.pha, []) ∧
    decode .b8 .b8 [0x49, 0x34] = .ok (.eorImm 0x34, []) ∧
    decode .b8 .b8 [0x4A] = .ok (.lsrAcc, []) ∧
    decode .b8 .b8 [0x4B] = .ok (.phk, []) ∧
    decode .b8 .b8 [0x4C, 0x34, 0x12] = .ok (.jmpAbs 0x1234, []) ∧
    decode .b8 .b8 [0x4D, 0x34, 0x12] = .ok (.eorAbs 0x1234, []) ∧
    decode .b8 .b8 [0x4E, 0x34, 0x12] = .ok (.lsrAbs 0x1234, []) ∧
    decode .b8 .b8 [0x4F, 0x56, 0x34, 0x12] = .ok (.eorLong 0x123456, []) :=
  ⟨rfl, rfl, rfl, rfl, rfl, rfl, rfl, rfl, rfl, rfl, rfl, rfl, rfl, rfl, rfl, rfl⟩

theorem test_decode_row_5 :
    decode .b8 .b8 [0x50, 0x12] = .ok (.bvc 0x12, []) ∧
    decode .b8 .b8 [0x51, 0x12] = .ok (.eorDpIndY 0x12, []) ∧
    decode .b8 .b8 [0x52, 0x12] = .ok (.eorDpInd 0x12, []) ∧
    decode .b8 .b8 [0x53, 0x12] = .ok (.eorSrIndY 0x12, []) ∧
    decode .b8 .b8 [0x54, 0x7E, 0x12] = .ok (.mvn 0x7E 0x12, []) ∧
    decode .b8 .b8 [0x55, 0x12] = .ok (.eorDpX 0x12, []) ∧
    decode .b8 .b8 [0x56, 0x12] = .ok (.lsrDpX 0x12, []) ∧
    decode .b8 .b8 [0x57, 0x12] = .ok (.eorDpIndLongY 0x12, []) ∧
    decode .b8 .b8 [0x58] = .ok (.cli, []) ∧
    decode .b8 .b8 [0x59, 0x34, 0x12] = .ok (.eorAbsY 0x1234, []) ∧
    decode .b8 .b8 [0x5A] = .ok (.phy, []) ∧
    decode .b8 .b8 [0x5B] = .ok (.tcd, []) ∧
    decode .b8 .b8 [0x5C, 0x56, 0x34, 0x12] = .ok (.jmlLong 0x123456, []) ∧
    decode .b8 .b8 [0x5D, 0x34, 0x12] = .ok (.eorAbsX 0x1234, []) ∧
    decode .b8 .b8 [0x5E, 0x34, 0x12] = .ok (.lsrAbsX 0x1234, []) ∧
    decode .b8 .b8 [0x5F, 0x56, 0x34, 0x12] = .ok (.eorLongX 0x123456, []) :=
  ⟨rfl, rfl, rfl, rfl, rfl, rfl, rfl, rfl, rfl, rfl, rfl, rfl, rfl, rfl, rfl, rfl⟩

theorem test_decode_row_6 :
    decode .b8 .b8 [0x60] = .ok (.rts, []) ∧
    decode .b8 .b8 [0x61, 0x12] = .ok (.adcDpXInd 0x12, []) ∧
    decode .b8 .b8 [0x62, 0x34, 0x12] = .ok (.per 0x1234, []) ∧
    decode .b8 .b8 [0x63, 0x12] = .ok (.adcSr 0x12, []) ∧
    decode .b8 .b8 [0x64, 0x12] = .ok (.stzDp 0x12, []) ∧
    decode .b8 .b8 [0x65, 0x12] = .ok (.adcDp 0x12, []) ∧
    decode .b8 .b8 [0x66, 0x12] = .ok (.rorDp 0x12, []) ∧
    decode .b8 .b8 [0x67, 0x12] = .ok (.adcDpIndLong 0x12, []) ∧
    decode .b8 .b8 [0x68] = .ok (.pla, []) ∧
    decode .b8 .b8 [0x69, 0x34] = .ok (.adcImm 0x34, []) ∧
    decode .b8 .b8 [0x6A] = .ok (.rorAcc, []) ∧
    decode .b8 .b8 [0x6B] = .ok (.rtl, []) ∧
    decode .b8 .b8 [0x6C, 0x34, 0x12] = .ok (.jmpAbsInd 0x1234, []) ∧
    decode .b8 .b8 [0x6D, 0x34, 0x12] = .ok (.adcAbs 0x1234, []) ∧
    decode .b8 .b8 [0x6E, 0x34, 0x12] = .ok (.rorAbs 0x1234, []) ∧
    decode .b8 .b8 [0x6F, 0x56, 0x34, 0x12] = .ok (.adcLong 0x123456, []) :=
  ⟨rfl, rfl, rfl, rfl, rfl, rfl, rfl, rfl, rfl, rfl, rfl, rfl, rfl, rfl, rfl, rfl⟩

theorem test_decode_row_7 :
    decode .b8 .b8 [0x70, 0x12] = .ok (.bvs 0x12, []) ∧
    decode .b8 .b8 [0x71, 0x12] = .ok (.adcDpIndY 0x12, []) ∧
    decode .b8 .b8 [0x72, 0x12] = .ok (.adcDpInd 0x12, []) ∧
    decode .b8 .b8 [0x73, 0x12] = .ok (.adcSrIndY 0x12, []) ∧
    decode .b8 .b8 [0x74, 0x12] = .ok (.stzDpX 0x12, []) ∧
    decode .b8 .b8 [0x75, 0x12] = .ok (.adcDpX 0x12, []) ∧
    decode .b8 .b8 [0x76, 0x12] = .ok (.rorDpX 0x12, []) ∧
    decode .b8 .b8 [0x77, 0x12] = .ok (.adcDpIndLongY 0x12, []) ∧
    decode .b8 .b8 [0x78] = .ok (.sei, []) ∧
    decode .b8 .b8 [0x79, 0x34, 0x12] = .ok (.adcAbsY 0x1234, []) ∧
    decode .b8 .b8 [0x7A] = .ok (.ply, []) ∧
    decode .b8 .b8 [0x7B] = .ok (.tdc, []) ∧
    decode .b8 .b8 [0x7C, 0x34, 0x12] = .ok (.jmpAbsXInd 0x1234, []) ∧
    decode .b8 .b8 [0x7D, 0x34, 0x12] = .ok (.adcAbsX 0x1234, []) ∧
    decode .b8 .b8 [0x7E, 0x34, 0x12] = .ok (.rorAbsX 0x1234, []) ∧
    decode .b8 .b8 [0x7F, 0x56, 0x34, 0x12] = .ok (.adcLongX 0x123456, []) :=
  ⟨rfl, rfl, rfl, rfl, rfl, rfl, rfl, rfl, rfl, rfl, rfl, rfl, rfl, rfl, rfl, rfl⟩

theorem test_decode_row_8 :
    decode .b8 .b8 [0x80, 0x12] = .ok (.bra 0x12, []) ∧
    decode .b8 .b8 [0x81, 0x12] = .ok (.staDpXInd 0x12, []) ∧
    decode .b8 .b8 [0x82, 0x34, 0x12] = .ok (.brl 0x1234, []) ∧
    decode .b8 .b8 [0x83, 0x12] = .ok (.staSr 0x12, []) ∧
    decode .b8 .b8 [0x84, 0x12] = .ok (.styDp 0x12, []) ∧
    decode .b8 .b8 [0x85, 0x12] = .ok (.staDp 0x12, []) ∧
    decode .b8 .b8 [0x86, 0x12] = .ok (.stxDp 0x12, []) ∧
    decode .b8 .b8 [0x87, 0x12] = .ok (.staDpIndLong 0x12, []) ∧
    decode .b8 .b8 [0x88] = .ok (.dey, []) ∧
    decode .b8 .b8 [0x89, 0x34] = .ok (.bitImm 0x34, []) ∧
    decode .b8 .b8 [0x8A] = .ok (.txa, []) ∧
    decode .b8 .b8 [0x8B] = .ok (.phb, []) ∧
    decode .b8 .b8 [0x8C, 0x34, 0x12] = .ok (.styAbs 0x1234, []) ∧
    decode .b8 .b8 [0x8D, 0x34, 0x12] = .ok (.staAbs 0x1234, []) ∧
    decode .b8 .b8 [0x8E, 0x34, 0x12] = .ok (.stxAbs 0x1234, []) ∧
    decode .b8 .b8 [0x8F, 0x56, 0x34, 0x12] = .ok (.staLong 0x123456, []) :=
  ⟨rfl, rfl, rfl, rfl, rfl, rfl, rfl, rfl, rfl, rfl, rfl, rfl, rfl, rfl, rfl, rfl⟩

theorem test_decode_row_9 :
    decode .b8 .b8 [0x90, 0x12] = .ok (.bcc 0x12, []) ∧
    decode .b8 .b8 [0x91, 0x12] = .ok (.staDpIndY 0x12, []) ∧
    decode .b8 .b8 [0x92, 0x12] = .ok (.staDpInd 0x12, []) ∧
    decode .b8 .b8 [0x93, 0x12] = .ok (.staSrIndY 0x12, []) ∧
    decode .b8 .b8 [0x94, 0x12] = .ok (.styDpX 0x12, []) ∧
    decode .b8 .b8 [0x95, 0x12] = .ok (.staDpX 0x12, []) ∧
    decode .b8 .b8 [0x96, 0x12] = .ok (.stxDpY 0x12, []) ∧
    decode .b8 .b8 [0x97, 0x12] = .ok (.staDpIndLongY 0x12, []) ∧
    decode .b8 .b8 [0x98] = .ok (.tya, []) ∧
    decode .b8 .b8 [0x99, 0x34, 0x12] = .ok (.staAbsY 0x1234, []) ∧
    decode .b8 .b8 [0x9A] = .ok (.txs, []) ∧
    decode .b8 .b8 [0x9B] = .ok (.txy, []) ∧
    decode .b8 .b8 [0x9C, 0x34, 0x12] = .ok (.stzAbs 0x1234, []) ∧
    decode .b8 .b8 [0x9D, 0x34, 0x12] = .ok (.staAbsX 0x1234, []) ∧
    decode .b8 .b8 [0x9E, 0x34, 0x12] = .ok (.stzAbsX 0x1234, []) ∧
    decode .b8 .b8 [0x9F, 0x56, 0x34, 0x12] = .ok (.staLongX 0x123456, []) :=
  ⟨rfl, rfl, rfl, rfl, rfl, rfl, rfl, rfl, rfl, rfl, rfl, rfl, rfl, rfl, rfl, rfl⟩

theorem test_decode_row_A :
    decode .b8 .b8 [0xA0, 0x34] = .ok (.ldyImm 0x34, []) ∧
    decode .b8 .b8 [0xA1, 0x12] = .ok (.ldaDpXInd 0x12, []) ∧
    decode .b8 .b8 [0xA2, 0x34] = .ok (.ldxImm 0x34, []) ∧
    decode .b8 .b8 [0xA3, 0x12] = .ok (.ldaSr 0x12, []) ∧
    decode .b8 .b8 [0xA4, 0x12] = .ok (.ldyDp 0x12, []) ∧
    decode .b8 .b8 [0xA5, 0x12] = .ok (.ldaDp 0x12, []) ∧
    decode .b8 .b8 [0xA6, 0x12] = .ok (.ldxDp 0x12, []) ∧
    decode .b8 .b8 [0xA7, 0x12] = .ok (.ldaDpIndLong 0x12, []) ∧
    decode .b8 .b8 [0xA8] = .ok (.tay, []) ∧
    decode .b8 .b8 [0xA9, 0x34] = .ok (.ldaImm 0x34, []) ∧
    decode .b8 .b8 [0xAA] = .ok (.tax, []) ∧
    decode .b8 .b8 [0xAB] = .ok (.plb, []) ∧
    decode .b8 .b8 [0xAC, 0x34, 0x12] = .ok (.ldyAbs 0x1234, []) ∧
    decode .b8 .b8 [0xAD, 0x34, 0x12] = .ok (.ldaAbs 0x1234, []) ∧
    decode .b8 .b8 [0xAE, 0x34, 0x12] = .ok (.ldxAbs 0x1234, []) ∧
    decode .b8 .b8 [0xAF, 0x56, 0x34, 0x12] = .ok (.ldaLong 0x123456, []) :=
  ⟨rfl, rfl, rfl, rfl, rfl, rfl, rfl, rfl, rfl, rfl, rfl, rfl, rfl, rfl, rfl, rfl⟩

theorem test_decode_row_B :
    decode .b8 .b8 [0xB0, 0x12] = .ok (.bcs 0x12, []) ∧
    decode .b8 .b8 [0xB1, 0x12] = .ok (.ldaDpIndY 0x12, []) ∧
    decode .b8 .b8 [0xB2, 0x12] = .ok (.ldaDpInd 0x12, []) ∧
    decode .b8 .b8 [0xB3, 0x12] = .ok (.ldaSrIndY 0x12, []) ∧
    decode .b8 .b8 [0xB4, 0x12] = .ok (.ldyDpX 0x12, []) ∧
    decode .b8 .b8 [0xB5, 0x12] = .ok (.ldaDpX 0x12, []) ∧
    decode .b8 .b8 [0xB6, 0x12] = .ok (.ldxDpY 0x12, []) ∧
    decode .b8 .b8 [0xB7, 0x12] = .ok (.ldaDpIndLongY 0x12, []) ∧
    decode .b8 .b8 [0xB8] = .ok (.clv, []) ∧
    decode .b8 .b8 [0xB9, 0x34, 0x12] = .ok (.ldaAbsY 0x1234, []) ∧
    decode .b8 .b8 [0xBA] = .ok (.tsx, []) ∧
    decode .b8 .b8 [0xBB] = .ok (.tyx, []) ∧
    decode .b8 .b8 [0xBC, 0x34, 0x12] = .ok (.ldyAbsX 0x1234, []) ∧
    decode .b8 .b8 [0xBD, 0x34, 0x12] = .ok (.ldaAbsX 0x1234, []) ∧
    decode .b8 .b8 [0xBE, 0x34, 0x12] = .ok (.ldxAbsY 0x1234, []) ∧
    decode .b8 .b8 [0xBF, 0x56, 0x34, 0x12] = .ok (.ldaLongX 0x123456, []) :=
  ⟨rfl, rfl, rfl, rfl, rfl, rfl, rfl, rfl, rfl, rfl, rfl, rfl, rfl, rfl, rfl, rfl⟩

theorem test_decode_row_C :
    decode .b8 .b8 [0xC0, 0x34] = .ok (.cpyImm 0x34, []) ∧
    decode .b8 .b8 [0xC1, 0x12] = .ok (.cmpDpXInd 0x12, []) ∧
    decode .b8 .b8 [0xC2, 0x12] = .ok (.rep 0x12, []) ∧
    decode .b8 .b8 [0xC3, 0x12] = .ok (.cmpSr 0x12, []) ∧
    decode .b8 .b8 [0xC4, 0x12] = .ok (.cpyDp 0x12, []) ∧
    decode .b8 .b8 [0xC5, 0x12] = .ok (.cmpDp 0x12, []) ∧
    decode .b8 .b8 [0xC6, 0x12] = .ok (.decDp 0x12, []) ∧
    decode .b8 .b8 [0xC7, 0x12] = .ok (.cmpDpIndLong 0x12, []) ∧
    decode .b8 .b8 [0xC8] = .ok (.iny, []) ∧
    decode .b8 .b8 [0xC9, 0x34] = .ok (.cmpImm 0x34, []) ∧
    decode .b8 .b8 [0xCA] = .ok (.dex, []) ∧
    decode .b8 .b8 [0xCB] = .ok (.wai, []) ∧
    decode .b8 .b8 [0xCC, 0x34, 0x12] = .ok (.cpyAbs 0x1234, []) ∧
    decode .b8 .b8 [0xCD, 0x34, 0x12] = .ok (.cmpAbs 0x1234, []) ∧
    decode .b8 .b8 [0xCE, 0x34, 0x12] = .ok (.decAbs 0x1234, []) ∧
    decode .b8 .b8 [0xCF, 0x56, 0x34, 0x12] = .ok (.cmpLong 0x123456, []) :=
  ⟨rfl, rfl, rfl, rfl, rfl, rfl, rfl, rfl, rfl, rfl, rfl, rfl, rfl, rfl, rfl, rfl⟩

theorem test_decode_row_D :
    decode .b8 .b8 [0xD0, 0x12] = .ok (.bne 0x12, []) ∧
    decode .b8 .b8 [0xD1, 0x12] = .ok (.cmpDpIndY 0x12, []) ∧
    decode .b8 .b8 [0xD2, 0x12] = .ok (.cmpDpInd 0x12, []) ∧
    decode .b8 .b8 [0xD3, 0x12] = .ok (.cmpSrIndY 0x12, []) ∧
    decode .b8 .b8 [0xD4, 0x12] = .ok (.pei 0x12, []) ∧
    decode .b8 .b8 [0xD5, 0x12] = .ok (.cmpDpX 0x12, []) ∧
    decode .b8 .b8 [0xD6, 0x12] = .ok (.decDpX 0x12, []) ∧
    decode .b8 .b8 [0xD7, 0x12] = .ok (.cmpDpIndLongY 0x12, []) ∧
    decode .b8 .b8 [0xD8] = .ok (.cld, []) ∧
    decode .b8 .b8 [0xD9, 0x34, 0x12] = .ok (.cmpAbsY 0x1234, []) ∧
    decode .b8 .b8 [0xDA] = .ok (.phx, []) ∧
    decode .b8 .b8 [0xDB] = .ok (.stp, []) ∧
    decode .b8 .b8 [0xDC, 0x34, 0x12] = .ok (.jmlAbsIndLong 0x1234, []) ∧
    decode .b8 .b8 [0xDD, 0x34, 0x12] = .ok (.cmpAbsX 0x1234, []) ∧
    decode .b8 .b8 [0xDE, 0x34, 0x12] = .ok (.decAbsX 0x1234, []) ∧
    decode .b8 .b8 [0xDF, 0x56, 0x34, 0x12] = .ok (.cmpLongX 0x123456, []) :=
  ⟨rfl, rfl, rfl, rfl, rfl, rfl, rfl, rfl, rfl, rfl, rfl, rfl, rfl, rfl, rfl, rfl⟩

theorem test_decode_row_E :
    decode .b8 .b8 [0xE0, 0x34] = .ok (.cpxImm 0x34, []) ∧
    decode .b8 .b8 [0xE1, 0x12] = .ok (.sbcDpXInd 0x12, []) ∧
    decode .b8 .b8 [0xE2, 0x12] = .ok (.sep 0x12, []) ∧
    decode .b8 .b8 [0xE3, 0x12] = .ok (.sbcSr 0x12, []) ∧
    decode .b8 .b8 [0xE4, 0x12] = .ok (.cpxDp 0x12, []) ∧
    decode .b8 .b8 [0xE5, 0x12] = .ok (.sbcDp 0x12, []) ∧
    decode .b8 .b8 [0xE6, 0x12] = .ok (.incDp 0x12, []) ∧
    decode .b8 .b8 [0xE7, 0x12] = .ok (.sbcDpIndLong 0x12, []) ∧
    decode .b8 .b8 [0xE8] = .ok (.inx, []) ∧
    decode .b8 .b8 [0xE9, 0x34] = .ok (.sbcImm 0x34, []) ∧
    decode .b8 .b8 [0xEA] = .ok (.nop, []) ∧
    decode .b8 .b8 [0xEB] = .ok (.xba, []) ∧
    decode .b8 .b8 [0xEC, 0x34, 0x12] = .ok (.cpxAbs 0x1234, []) ∧
    decode .b8 .b8 [0xED, 0x34, 0x12] = .ok (.sbcAbs 0x1234, []) ∧
    decode .b8 .b8 [0xEE, 0x34, 0x12] = .ok (.incAbs 0x1234, []) ∧
    decode .b8 .b8 [0xEF, 0x56, 0x34, 0x12] = .ok (.sbcLong 0x123456, []) :=
  ⟨rfl, rfl, rfl, rfl, rfl, rfl, rfl, rfl, rfl, rfl, rfl, rfl, rfl, rfl, rfl, rfl⟩

theorem test_decode_row_F :
    decode .b8 .b8 [0xF0, 0x12] = .ok (.beq 0x12, []) ∧
    decode .b8 .b8 [0xF1, 0x12] = .ok (.sbcDpIndY 0x12, []) ∧
    decode .b8 .b8 [0xF2, 0x12] = .ok (.sbcDpInd 0x12, []) ∧
    decode .b8 .b8 [0xF3, 0x12] = .ok (.sbcSrIndY 0x12, []) ∧
    decode .b8 .b8 [0xF4, 0x34, 0x12] = .ok (.pea 0x1234, []) ∧
    decode .b8 .b8 [0xF5, 0x12] = .ok (.sbcDpX 0x12, []) ∧
    decode .b8 .b8 [0xF6, 0x12] = .ok (.incDpX 0x12, []) ∧
    decode .b8 .b8 [0xF7, 0x12] = .ok (.sbcDpIndLongY 0x12, []) ∧
    decode .b8 .b8 [0xF8] = .ok (.sed, []) ∧
    decode .b8 .b8 [0xF9, 0x34, 0x12] = .ok (.sbcAbsY 0x1234, []) ∧
    decode .b8 .b8 [0xFA] = .ok (.plx, []) ∧
    decode .b8 .b8 [0xFB] = .ok (.xce, []) ∧
    decode .b8 .b8 [0xFC, 0x34, 0x12] = .ok (.jsrAbsXInd 0x1234, []) ∧
    decode .b8 .b8 [0xFD, 0x34, 0x12] = .ok (.sbcAbsX 0x1234, []) ∧
    decode .b8 .b8 [0xFE, 0x34, 0x12] = .ok (.incAbsX 0x1234, []) ∧
    decode .b8 .b8 [0xFF, 0x56, 0x34, 0x12] = .ok (.sbcLongX 0x123456, []) :=
  ⟨rfl, rfl, rfl, rfl, rfl, rfl, rfl, rfl, rfl, rfl, rfl, rfl, rfl, rfl, rfl, rfl⟩

/-- The immediates at width 16 (30_encoding.md R141, R142). -/
theorem test_decode_imm16 :
    decode .b16 .b8 [0x09, 0x34, 0x12] = .ok (.oraImm 0x1234, []) ∧
    decode .b16 .b8 [0x29, 0x34, 0x12] = .ok (.andImm 0x1234, []) ∧
    decode .b16 .b8 [0x49, 0x34, 0x12] = .ok (.eorImm 0x1234, []) ∧
    decode .b16 .b8 [0x69, 0x34, 0x12] = .ok (.adcImm 0x1234, []) ∧
    decode .b16 .b8 [0x89, 0x34, 0x12] = .ok (.bitImm 0x1234, []) ∧
    decode .b8 .b16 [0xA0, 0x34, 0x12] = .ok (.ldyImm 0x1234, []) ∧
    decode .b8 .b16 [0xA2, 0x34, 0x12] = .ok (.ldxImm 0x1234, []) ∧
    decode .b16 .b8 [0xA9, 0x34, 0x12] = .ok (.ldaImm 0x1234, []) ∧
    decode .b8 .b16 [0xC0, 0x34, 0x12] = .ok (.cpyImm 0x1234, []) ∧
    decode .b16 .b8 [0xC9, 0x34, 0x12] = .ok (.cmpImm 0x1234, []) ∧
    decode .b8 .b16 [0xE0, 0x34, 0x12] = .ok (.cpxImm 0x1234, []) ∧
    decode .b16 .b8 [0xE9, 0x34, 0x12] = .ok (.sbcImm 0x1234, []) :=
  ⟨rfl, rfl, rfl, rfl, rfl, rfl, rfl, rfl, rfl, rfl, rfl, rfl⟩

/-- Bytes that end too early are refused by name. -/
theorem test_decode_short : decode .b8 .b8 [] = .error .noOpcode ∧ decode .b8 .b8 [0xAD, 0x34] = .error (.truncated 0xAD) :=
  ⟨rfl, rfl⟩

/-- Opcode-table words, bit 0 the least significant bit of the first byte. -/
theorem test_decodeTableWord :
    decodeTableWord 8 0xEA = some .nop ∧ decodeTableWord 24 0x1234AD = some (.ldaAbs 0x1234) ∧
    decodeTableWord 8 0xFF = some (.sbcLongX 0) := ⟨rfl, rfl, rfl⟩

/-- The word is what the next step runs. -/
theorem test_withFetchWord : after (State.reset.withFetchWord 16 0x12A9) = { after (State.reset.withFetchWord 16 0x12A9) with
    cpu := { (State.reset.withFetchWord 16 0x12A9).cpu with a := 0x0012, pc := (State.reset.withFetchWord 16 0x12A9).cpu.pc + 2 } } := by
  decide

/-! One step of an instruction on a small state. Source: the Example of the rule named (R<n>), or a vector V<n> of
95_test_vectors.md. The default state is that file's: native, 8-bit widths, `S` = 0x01FF, at 00:8000. -/

/-- V1. -/
theorem test_lda_imm8 : let t := after (vec (fun c => { c with a := 0x12FF }) [(0x00, 0x8000, [0xA9, 0x00])])
    t.cpu.a = 0x1200 ∧ t.cpu.p = 0x32 := by decide

/-- R200. -/
theorem test_lda_imm16 : let t := after (vec (fun c => { c with p := 0x00 }) [(0x00, 0x8000, [0xA9, 0x00, 0x80])])
    t.cpu.a = 0x8000 ∧ t.cpu.p = 0x80 ∧ t.cpu.pc = 0x8003 := by decide

/-- R201. -/
theorem test_ldx_imm : let t := after (vec id [(0x00, 0x8000, [0xA2, 0xFF])])
    t.cpu.x = 0x00FF ∧ t.cpu.p = 0xB0 := by decide

/-- V13. -/
theorem test_ldx_dpY : let t := after (vec (fun c => { c with p := 0x20, y := 0x0002 }) [(0x00, 0x8000, [0xB6, 0x10]), (0x00, 0x0012, [0x00, 0x80])])
    t.cpu.x = 0x8000 ∧ t.cpu.p = 0xA0 := by decide

/-- R202. -/
theorem test_ldy_imm : let t := after (vec (fun c => { c with p := 0x20, y := 0x1234 }) [(0x00, 0x8000, [0xA0, 0x00, 0x00])])
    t.cpu.y = 0x0000 ∧ t.cpu.p = 0x22 := by decide

/-- R203. -/
theorem test_sta_abs : let t := after (vec (fun c => { c with p := 0x10, a := 0xBEEF, db := 0x7E }) [(0x00, 0x8000, [0x8D, 0x10, 0x00])])
    t.bus.peek 0x7E0010 = 0xEF ∧ t.bus.peek 0x7E0011 = 0xBE := by decide

/-- V17. -/
theorem test_sta_rom : let t := after (vec (fun c => { c with a := 0x0042 }) [(0x00, 0x8000, [0x8D, 0x00, 0x90])])
    t.bus.peek 0x009000 = 0x00 ∧ t.cpu.pc = 0x8003 := by decide

/-- R204. -/
theorem test_stx_dp : let t := after (vec (fun c => { c with x := 0x0042 }) [(0x00, 0x8000, [0x86, 0x20])])
    t.bus.peek 0x000020 = 0x42 := by decide

/-- R205. -/
theorem test_sty_abs : let t := after (vec (fun c => { c with p := 0x20, y := 0x1234 }) [(0x00, 0x8000, [0x8C, 0x00, 0x01])])
    t.bus.peek 0x000100 = 0x34 ∧ t.bus.peek 0x000101 = 0x12 := by decide

/-- R206. -/
theorem test_stz_abs : let t := after (vec (fun c => { c with db := 0x7E }) [(0x00, 0x8000, [0x9C, 0x00, 0x20]), (0x7E, 0x2000, [0xFF, 0xFF])])
    t.bus.peek 0x7E2000 = 0x00 ∧ t.bus.peek 0x7E2001 = 0xFF := by decide

/-! Addressing modes, on LDA. -/

/-- R173, and R171 on byte 1. -/
theorem test_dp : let t := after (vec (fun c => { c with p := 0x10, d := 0x0012 }) [(0x00, 0x8000, [0xA5, 0xFE]), (0x00, 0x0110, [0x12, 0x34])])
    t.cpu.a = 0x3412 := by decide

/-- V3. -/
theorem test_dpX_page_wrap : let t := after (vec (fun c => { c with e := true, x := 0x0010 }) [(0x00, 0x8000, [0xB5, 0xF8]), (0x00, 0x0008, [0x5A]), (0x00, 0x0108, [0x99])])
    t.cpu.a = 0x005A := by decide

/-- V4. -/
theorem test_dpX_no_wrap : let t := after (vec (fun c => { c with e := true, x := 0x0010, d := 0x0001 }) [(0x00, 0x8000, [0xB5, 0xF8]), (0x00, 0x0009, [0x5A]), (0x00, 0x0109, [0x99])])
    t.cpu.a = 0x0099 := by decide

/-- R175. -/
theorem test_dpInd : let t := after (vec (fun c => { c with db := 0x7E }) [(0x00, 0x8000, [0xB2, 0x10]), (0x00, 0x0010, [0x00, 0x20]), (0x7E, 0x2000, [0x55])])
    t.cpu.a = 0x0055 := by decide

/-- V12. -/
theorem test_dpXInd : let t := after (vec (fun c => { c with x := 0x0004 }) [(0x00, 0x8000, [0xA1, 0x10]), (0x00, 0x0014, [0x00, 0x03]), (0x00, 0x0300, [0x01])])
    t.cpu.a = 0x0001 := by decide

/-- V6. -/
theorem test_dpIndY_bank_carry : let t := after (vec (fun c => { c with y := 0x0001, db := 0x7E }) [(0x00, 0x8000, [0xB1, 0x10]), (0x00, 0x0010, [0xFF, 0xFF]), (0x7F, 0x0000, [0xC3])])
    t.cpu.a = 0x00C3 := by decide

/-- R178. -/
theorem test_dpIndLong : let t := after (vec id [(0x00, 0x8000, [0xA7, 0x20]), (0x00, 0x0020, [0x00, 0x10, 0x7F]), (0x7F, 0x1000, [0x66])])
    t.cpu.a = 0x0066 := by decide

/-- V7. -/
theorem test_dpIndLongY : let t := after (vec (fun c => { c with y := 0x0002 }) [(0x00, 0x8000, [0xB7, 0x20]), (0x00, 0x0020, [0xFF, 0xFF, 0x7E]), (0x7F, 0x0001, [0x44])])
    t.cpu.a = 0x0044 := by decide

/-- V8. -/
theorem test_absX_bank_carry : let t := after (vec (fun c => { c with p := 0x10, x := 0x0002, db := 0x7E }) [(0x00, 0x8000, [0xBD, 0xFF, 0xFF]), (0x7F, 0x0001, [0x34, 0x12])])
    t.cpu.a = 0x1234 := by decide

/-- R181. -/
theorem test_absY : let t := after (vec (fun c => { c with y := 0x0002, db := 0x7E }) [(0x00, 0x8000, [0xB9, 0x34, 0x12]), (0x7E, 0x1236, [0x77])])
    t.cpu.a = 0x0077 := by decide

/-- R182. -/
theorem test_long : let t := after (vec (fun c => { c with db := 0x00 }) [(0x00, 0x8000, [0xAF, 0x34, 0x12, 0x7E]), (0x7E, 0x1234, [0x78])])
    t.cpu.a = 0x0078 := by decide

/-- V9. -/
theorem test_longX : let t := after (vec (fun c => { c with x := 0x0001 }) [(0x00, 0x8000, [0xBF, 0xFF, 0xFF, 0x7E]), (0x7F, 0x0000, [0x80])])
    t.cpu.a = 0x0080 := by decide

/-- V10. -/
theorem test_sr : let t := after (vec (fun c => { c with s := 0x01F0 }) [(0x00, 0x8000, [0xA3, 0x03]), (0x00, 0x01F3, [0x77])])
    t.cpu.a = 0x0077 := by decide

/-- V11. -/
theorem test_srIndY : let t := after (vec (fun c => { c with s := 0x1FF0, db := 0x7E, y := 0x0004 }) [(0x00, 0x8000, [0xB3, 0x02]), (0x00, 0x1FF2, [0x00, 0x20]), (0x7E, 0x2004, [0x66])])
    t.cpu.a = 0x0066 := by decide

/-! Transfers. -/

/-- R220. -/
theorem test_tax : let t := after (vec (fun c => { c with p := 0x20, a := 0x12F0 }) [(0x00, 0x8000, [0xAA])])
    t.cpu.x = 0x12F0 ∧ t.cpu.p = 0x20 := by decide

/-- R221. -/
theorem test_tay : let t := after (vec (fun c => { c with a := 0x1280 }) [(0x00, 0x8000, [0xA8])])
    t.cpu.y = 0x0080 ∧ t.cpu.p = 0xB0 := by decide

/-- R222. -/
theorem test_txa : let t := after (vec (fun c => { c with p := 0x10, a := 0xFFFF, x := 0x0080 }) [(0x00, 0x8000, [0x8A])])
    t.cpu.a = 0x0080 ∧ t.cpu.p = 0x10 := by decide

/-- R223. -/
theorem test_tya : let t := after (vec (fun c => { c with a := 0x5500 }) [(0x00, 0x8000, [0x98])])
    t.cpu.a = 0x5500 ∧ t.cpu.p = 0x32 := by decide

/-- R224. -/
theorem test_txy : let t := after (vec (fun c => { c with p := 0x00, x := 0x8001 }) [(0x00, 0x8000, [0x9B])])
    t.cpu.y = 0x8001 ∧ t.cpu.p = 0x80 := by decide

/-- R225. -/
theorem test_tyx : let t := after (vec (fun c => { c with x := 0x0012 }) [(0x00, 0x8000, [0xBB])])
    t.cpu.x = 0x0000 ∧ t.cpu.p = 0x32 := by decide

/-- R226. -/
theorem test_tsx : let t := after (vec (fun c => { c with e := true, s := 0x01FD }) [(0x00, 0x8000, [0xBA])])
    t.cpu.x = 0x00FD ∧ t.cpu.p = 0xB0 := by decide

/-- V26. -/
theorem test_txs_emulation : let t := after (vec (fun c => { c with e := true, x := 0x0080 }) [(0x00, 0x8000, [0x9A])])
    t.cpu.s = 0x0180 ∧ t.cpu.p = 0x30 := by decide

/-- V27. -/
theorem test_txs_native : let t := after (vec (fun c => { c with s := 0x1FFF, x := 0x0080 }) [(0x00, 0x8000, [0x9A])])
    t.cpu.s = 0x0080 := by decide

/-- R228. -/
theorem test_tcs : let t := after (vec (fun c => { c with a := 0x1FFF }) [(0x00, 0x8000, [0x1B])])
    t.cpu.s = 0x1FFF ∧ t.cpu.p = 0x30 := by decide

/-- R229. -/
theorem test_tsc : let t := after (vec (fun c => { c with e := true, s := 0x01F0, a := 0xFFFF }) [(0x00, 0x8000, [0x3B])])
    t.cpu.a = 0x01F0 ∧ t.cpu.p = 0x30 := by decide

/-- R230. -/
theorem test_tcd : let t := after (vec (fun c => { c with d := 0x1234 }) [(0x00, 0x8000, [0x5B])])
    t.cpu.d = 0x0000 ∧ t.cpu.p = 0x32 := by decide

/-- R231. -/
theorem test_tdc : let t := after (vec (fun c => { c with d := 0x8000 }) [(0x00, 0x8000, [0x7B])])
    t.cpu.a = 0x8000 ∧ t.cpu.p = 0xB0 := by decide

/-- R232. -/
theorem test_xba : let t := after (vec (fun c => { c with a := 0x00FF }) [(0x00, 0x8000, [0xEB])])
    t.cpu.a = 0xFF00 ∧ t.cpu.p = 0x32 := by decide

/-! Arithmetic. -/

/-- S2 and R242. -/
theorem test_adc : let t := after (vec (fun c => { c with p := 0x20, a := 0x007F }) [(0x00, 0x8000, [0x69, 0x01])])
    t.cpu.a = 0x0080 ∧ t.cpu.p = 0xE0 := by decide

/-- R243. -/
theorem test_sbc_decimal : let t := after (vec (fun c => { c with p := 0x39, a := 0x0050 }) [(0x00, 0x8000, [0xE9, 0x01])])
    t.cpu.a = 0x0049 ∧ t.cpu.p = 0x39 := by decide

/-- R245. -/
theorem test_cmp : let t := after (vec (fun c => { c with p := 0x10, a := 0x1234 }) [(0x00, 0x8000, [0xC9, 0x34, 0x12])])
    t.cpu.p = 0x13 ∧ t.cpu.a = 0x1234 := by decide

/-- R246. -/
theorem test_cpx : let t := after (vec (fun c => { c with p := 0x31, x := 0x0005 }) [(0x00, 0x8000, [0xE0, 0x06])])
    t.cpu.p = 0xB0 := by decide

/-- R247. -/
theorem test_cpy : let t := after (vec (fun c => { c with p := 0x20, y := 0x0100 }) [(0x00, 0x8000, [0xC0, 0xFF, 0x00])])
    t.cpu.p = 0x21 := by decide

/-- R248. -/
theorem test_inc_acc : let t := after (vec (fun c => { c with p := 0x10, a := 0x7FFF }) [(0x00, 0x8000, [0x1A])])
    t.cpu.a = 0x8000 ∧ t.cpu.p = 0x90 := by decide

/-- R249. -/
theorem test_inx : let t := after (vec (fun c => { c with x := 0x00FF }) [(0x00, 0x8000, [0xE8])])
    t.cpu.x = 0x0000 ∧ t.cpu.p = 0x32 := by decide

/-- R250. -/
theorem test_iny : let t := after (vec (fun c => { c with p := 0x20, y := 0x00FF }) [(0x00, 0x8000, [0xC8])])
    t.cpu.y = 0x0100 ∧ t.cpu.p = 0x20 := by decide

/-- R251. -/
theorem test_dec_abs : let t := after (vec (fun c => { c with db := 0x7E }) [(0x00, 0x8000, [0xCE, 0x10, 0x00]), (0x7E, 0x0010, [0x01])])
    t.bus.peek 0x7E0010 = 0x00 ∧ t.cpu.p = 0x32 := by decide

/-- R252. -/
theorem test_dex : let t := after (vec (fun c => { c with p := 0x20, x := 0x0001 }) [(0x00, 0x8000, [0xCA])])
    t.cpu.x = 0x0000 ∧ t.cpu.p = 0x22 := by decide

/-- R253. -/
theorem test_dey : let t := after (vec (fun c => { c with p := 0x20 }) [(0x00, 0x8000, [0x88])])
    t.cpu.y = 0xFFFF ∧ t.cpu.p = 0xA0 := by decide

/-! Logic and shifts. -/

/-- R260. -/
theorem test_and : let t := after (vec (fun c => { c with a := 0x12F0 }) [(0x00, 0x8000, [0x29, 0x0F])])
    t.cpu.a = 0x1200 ∧ t.cpu.p = 0x32 := by decide

/-- R261. -/
theorem test_ora : let t := after (vec (fun c => { c with p := 0x10, a := 0x0001 }) [(0x00, 0x8000, [0x09, 0x00, 0x80])])
    t.cpu.a = 0x8001 ∧ t.cpu.p = 0x90 := by decide

/-- R262. -/
theorem test_eor : let t := after (vec (fun c => { c with a := 0x00AA }) [(0x00, 0x8000, [0x49, 0xAA])])
    t.cpu.a = 0x0000 ∧ t.cpu.p = 0x32 := by decide

/-- V57. -/
theorem test_bit_imm : let t := after (vec (fun c => { c with p := 0xF0, a := 0x0001 }) [(0x00, 0x8000, [0x89, 0x02])])
    t.cpu.p = 0xF2 := by decide

/-- R263. -/
theorem test_bit_dp : let t := after (vec (fun c => { c with a := 0x0001 }) [(0x00, 0x8000, [0x24, 0x10]), (0x00, 0x0010, [0xC0])])
    t.cpu.p = 0xF2 ∧ t.cpu.a = 0x0001 := by decide

/-- R264. -/
theorem test_tsb : let t := after (vec (fun c => { c with a := 0x0001 }) [(0x00, 0x8000, [0x04, 0x10]), (0x00, 0x0010, [0x02])])
    t.bus.peek 0x000010 = 0x03 ∧ t.cpu.p = 0x32 := by decide

/-- R265. -/
theorem test_trb : let t := after (vec (fun c => { c with a := 0x0003 }) [(0x00, 0x8000, [0x14, 0x10]), (0x00, 0x0010, [0x07])])
    t.bus.peek 0x000010 = 0x04 ∧ t.cpu.p = 0x30 := by decide

/-- R266. -/
theorem test_asl_acc : let t := after (vec (fun c => { c with a := 0x0081 }) [(0x00, 0x8000, [0x0A])])
    t.cpu.a = 0x0002 ∧ t.cpu.p = 0x31 := by decide

/-- V61. -/
theorem test_asl_abs : let t := after (vec (fun c => { c with p := 0x10 }) [(0x00, 0x8000, [0x0E, 0x00, 0x10]), (0x00, 0x1000, [0x01, 0x80])])
    t.bus.peek 0x001000 = 0x02 ∧ t.bus.peek 0x001001 = 0x00 ∧ t.cpu.p = 0x11 := by decide

/-- R267. -/
theorem test_lsr_acc : let t := after (vec (fun c => { c with p := 0x10, a := 0x0001 }) [(0x00, 0x8000, [0x4A])])
    t.cpu.a = 0x0000 ∧ t.cpu.p = 0x13 := by decide

/-- R268. -/
theorem test_rol_acc : let t := after (vec (fun c => { c with p := 0x31, a := 0x0080 }) [(0x00, 0x8000, [0x2A])])
    t.cpu.a = 0x0001 ∧ t.cpu.p = 0x31 := by decide

/-- R269. -/
theorem test_ror_acc : let t := after (vec (fun c => { c with p := 0x10, a := 0x0001 }) [(0x00, 0x8000, [0x6A])])
    t.cpu.a = 0x0000 ∧ t.cpu.p = 0x13 := by decide

/-- V65. -/
theorem test_ror_dp : let t := after (vec (fun c => { c with p := 0x31 }) [(0x00, 0x8000, [0x66, 0x10]), (0x00, 0x0010, [0x02])])
    t.bus.peek 0x000010 = 0x81 ∧ t.cpu.p = 0xB0 := by decide

/-! Control transfer. -/

/-- R281. -/
theorem test_bpl : let t := after (vec id [(0x00, 0x8000, [0x10, 0x04])])
    t.cpu.pc = 0x8006 := by decide

/-- R282. -/
theorem test_bmi : let t := after (vec id [(0x00, 0x8000, [0x30, 0x04])])
    t.cpu.pc = 0x8002 := by decide

/-- R283. -/
theorem test_bvc : let t := after (vec id [(0x00, 0x8000, [0x50, 0xFE])])
    t.cpu.pc = 0x8000 := by decide

/-- R284. -/
theorem test_bvs : let t := after (vec (fun c => { c with p := 0x70 }) [(0x00, 0x8000, [0x70, 0x7F])])
    t.cpu.pc = 0x8081 := by decide

/-- R285. -/
theorem test_bcc : let t := after (vec id [(0x00, 0x8000, [0x90, 0x80])])
    t.cpu.pc = 0x7F82 := by decide

/-- R286. -/
theorem test_bcs : let t := after (vec (fun c => { c with p := 0x31, pb := 0x00, pc := 0xFFFC }) [(0x00, 0xFFFC, [0xB0, 0x02])])
    t.cpu.pc = 0x0000 ∧ t.cpu.pb = 0x00 := by decide

/-- R287. -/
theorem test_bne : let t := after (vec (fun c => { c with pb := 0x00, pc := 0x8010 }) [(0x00, 0x8010, [0xD0, 0xF8])])
    t.cpu.pc = 0x800A := by decide

/-- R288. -/
theorem test_beq : let t := after (vec (fun c => { c with pb := 0x00, pc := 0x8010 }) [(0x00, 0x8010, [0xF0, 0x10])])
    t.cpu.pc = 0x8012 := by decide

/-- R289. -/
theorem test_bra : let t := after (vec id [(0x00, 0x8000, [0x80, 0x10])])
    t.cpu.pc = 0x8012 := by decide

/-- R290. -/
theorem test_brl : let t := after (vec id [(0x00, 0x8000, [0x82, 0xFD, 0x7F])])
    t.cpu.pc = 0x0000 := by decide

/-- R291. -/
theorem test_jmp_abs : let t := after (vec (fun c => { c with pb := 0x01, pc := 0x8000 }) [(0x01, 0x8000, [0x4C, 0x00, 0x90])])
    t.cpu.pb = 0x01 ∧ t.cpu.pc = 0x9000 := by decide

/-- V72. -/
theorem test_jmp_absXInd : let t := after (vec (fun c => { c with x := 0x0002 }) [(0x00, 0x8000, [0x7C, 0x00, 0x90]), (0x00, 0x9002, [0x00, 0xA0])])
    t.cpu.pc = 0xA000 := by decide

/-- R292. -/
theorem test_jml_long : let t := after (vec id [(0x00, 0x8000, [0x5C, 0x00, 0x80, 0xC0])])
    t.cpu.pb = 0xC0 ∧ t.cpu.pc = 0x8000 := by decide

/-- V73. -/
theorem test_jml_absIndLong : let t := after (vec id [(0x00, 0x8000, [0xDC, 0x00, 0x04]), (0x00, 0x0400, [0x00, 0x80, 0xC0])])
    t.cpu.pb = 0xC0 ∧ t.cpu.pc = 0x8000 := by decide

/-- R293. -/
theorem test_jsr_abs : let t := after (vec (fun c => { c with e := true }) [(0x00, 0x8000, [0x20, 0x00, 0x90])])
    t.cpu.s = 0x01FD ∧ t.cpu.pc = 0x9000 ∧ t.bus.peek 0x0001FF = 0x80 ∧ t.bus.peek 0x0001FE = 0x02 := by decide

/-- V75. -/
theorem test_jsr_absXInd : let t := after (vec (fun c => { c with s := 0x1FFF, x := 0x0004 }) [(0x00, 0x8000, [0xFC, 0x00, 0x90]), (0x00, 0x9004, [0x34, 0x82])])
    t.cpu.s = 0x1FFD ∧ t.cpu.pc = 0x8234 ∧ t.bus.peek 0x001FFF = 0x80 ∧ t.bus.peek 0x001FFE = 0x02 := by decide

/-- R294. -/
theorem test_jsl : let t := after (vec (fun c => { c with s := 0x1FFF }) [(0x00, 0x8000, [0x22, 0x00, 0x80, 0x01])])
    t.cpu.s = 0x1FFC ∧ t.cpu.pb = 0x01 ∧ t.cpu.pc = 0x8000 ∧ t.bus.peek 0x001FFF = 0x00 ∧ t.bus.peek 0x001FFE = 0x80 ∧ t.bus.peek 0x001FFD = 0x03 := by decide

/-- R295. -/
theorem test_rts : let t := after (vec (fun c => { c with e := true, s := 0x01FD }) [(0x00, 0x8000, [0x60]), (0x00, 0x01FE, [0x02, 0x80])])
    t.cpu.s = 0x01FF ∧ t.cpu.pc = 0x8003 := by decide

/-- R296. -/
theorem test_rtl : let t := after (vec (fun c => { c with s := 0x1FFC, pb := 0x01, pc := 0x8000 }) [(0x01, 0x8000, [0x6B]), (0x00, 0x1FFD, [0x03, 0x80, 0x00])])
    t.cpu.s = 0x1FFF ∧ t.cpu.pb = 0x00 ∧ t.cpu.pc = 0x8004 := by decide

/-! Stack. -/

/-- R311. -/
theorem test_pha : let t := after (vec (fun c => { c with p := 0x10, s := 0x1FFF, a := 0x1234 }) [(0x00, 0x8000, [0x48])])
    t.cpu.s = 0x1FFD ∧ t.bus.peek 0x001FFF = 0x12 ∧ t.bus.peek 0x001FFE = 0x34 := by decide

/-- R312. -/
theorem test_phx : let t := after (vec (fun c => { c with e := true, s := 0x0100, x := 0x0055 }) [(0x00, 0x8000, [0xDA])])
    t.cpu.s = 0x01FF ∧ t.bus.peek 0x000100 = 0x55 := by decide

/-- R313. -/
theorem test_phy : let t := after (vec (fun c => { c with p := 0x20, s := 0x0200, y := 0xABCD }) [(0x00, 0x8000, [0x5A])])
    t.cpu.s = 0x01FE ∧ t.bus.peek 0x000200 = 0xAB ∧ t.bus.peek 0x0001FF = 0xCD := by decide

/-- R314. -/
theorem test_php : let t := after (vec (fun c => { c with e := true, p := 0x34 }) [(0x00, 0x8000, [0x08])])
    t.cpu.s = 0x01FE ∧ t.bus.peek 0x0001FF = 0x34 := by decide

/-- R315. -/
theorem test_phb : let t := after (vec (fun c => { c with e := true, db := 0x7E }) [(0x00, 0x8000, [0x8B])])
    t.cpu.s = 0x01FE ∧ t.bus.peek 0x0001FF = 0x7E := by decide

/-- R316. -/
theorem test_phd : let t := after (vec (fun c => { c with s := 0x1FFF, d := 0x2100 }) [(0x00, 0x8000, [0x0B])])
    t.cpu.s = 0x1FFD ∧ t.bus.peek 0x001FFF = 0x21 ∧ t.bus.peek 0x001FFE = 0x00 := by decide

/-- V82. -/
theorem test_phd_wrap : let t := after (vec (fun c => { c with e := true, s := 0x0100, d := 0x2100 }) [(0x00, 0x8000, [0x0B])])
    t.cpu.s = 0x01FE ∧ t.bus.peek 0x000100 = 0x21 ∧ t.bus.peek 0x0001FF = 0x00 := by decide

/-- R317. -/
theorem test_phk : let t := after (vec (fun c => { c with s := 0x1FFF, pb := 0x80, pc := 0x8000 }) [(0x80, 0x8000, [0x4B])])
    t.cpu.s = 0x1FFE ∧ t.bus.peek 0x001FFF = 0x80 := by decide

/-- R318. -/
theorem test_pla : let t := after (vec (fun c => { c with p := 0x10, s := 0x1FFD }) [(0x00, 0x8000, [0x68]), (0x00, 0x1FFE, [0x34, 0x12])])
    t.cpu.a = 0x1234 ∧ t.cpu.s = 0x1FFF ∧ t.cpu.p = 0x10 := by decide

/-- R319. -/
theorem test_plx : let t := after (vec (fun c => { c with e := true }) [(0x00, 0x8000, [0xFA]), (0x00, 0x0100, [0x80])])
    t.cpu.x = 0x0080 ∧ t.cpu.s = 0x0100 ∧ t.cpu.p = 0xB0 := by decide

/-- R320. -/
theorem test_ply : let t := after (vec (fun c => { c with p := 0x20, s := 0x1FFD, y := 0x1234 }) [(0x00, 0x8000, [0x7A])])
    t.cpu.y = 0x0000 ∧ t.cpu.s = 0x1FFF ∧ t.cpu.p = 0x22 := by decide

/-- R321. -/
theorem test_plp : let t := after (vec (fun c => { c with p := 0x00, x := 0x1234, y := 0xABCD, s := 0x1FFE }) [(0x00, 0x8000, [0x28]), (0x00, 0x1FFF, [0x30])])
    t.cpu.p = 0x30 ∧ t.cpu.x = 0x0034 ∧ t.cpu.y = 0x00CD := by decide

/-- V85. -/
theorem test_plp_emulation : let t := after (vec (fun c => { c with e := true, s := 0x01FE }) [(0x00, 0x8000, [0x28])])
    t.cpu.p = 0x30 ∧ t.cpu.s = 0x01FF := by decide

/-- R322. -/
theorem test_plb : let t := after (vec (fun c => { c with db := 0x7E, s := 0x1FFE }) [(0x00, 0x8000, [0xAB])])
    t.cpu.db = 0x00 ∧ t.cpu.p = 0x32 := by decide

/-- R323. -/
theorem test_pld : let t := after (vec (fun c => { c with s := 0x1FFD }) [(0x00, 0x8000, [0x2B]), (0x00, 0x1FFE, [0x00, 0x80])])
    t.cpu.d = 0x8000 ∧ t.cpu.p = 0xB0 := by decide

/-- R324. -/
theorem test_pea : let t := after (vec (fun c => { c with s := 0x1FFF }) [(0x00, 0x8000, [0xF4, 0x34, 0x12])])
    t.cpu.s = 0x1FFD ∧ t.bus.peek 0x001FFF = 0x12 ∧ t.bus.peek 0x001FFE = 0x34 := by decide

/-- R325. -/
theorem test_pei : let t := after (vec (fun c => { c with s := 0x1FFF }) [(0x00, 0x8000, [0xD4, 0x10]), (0x00, 0x0010, [0x78, 0x56])])
    t.cpu.s = 0x1FFD ∧ t.bus.peek 0x001FFF = 0x56 ∧ t.bus.peek 0x001FFE = 0x78 := by decide

/-- R326. -/
theorem test_per : let t := after (vec (fun c => { c with s := 0x1FFF }) [(0x00, 0x8000, [0x62, 0x0D, 0x00])])
    t.cpu.s = 0x1FFD ∧ t.bus.peek 0x001FFF = 0x80 ∧ t.bus.peek 0x001FFE = 0x10 := by decide

/-! Status and system. -/

/-- R330. -/
theorem test_clc : let t := after (vec (fun c => { c with p := 0xFF }) [(0x00, 0x8000, [0x18])])
    t.cpu.p = 0xFE := by decide

/-- R331. -/
theorem test_cld : let t := after (vec (fun c => { c with p := 0xFF }) [(0x00, 0x8000, [0xD8])])
    t.cpu.p = 0xF7 := by decide

/-- R332. -/
theorem test_cli : let t := after (vec (fun c => { c with p := 0xFF }) [(0x00, 0x8000, [0x58])])
    t.cpu.p = 0xFB := by decide

/-- R333. -/
theorem test_clv : let t := after (vec (fun c => { c with p := 0xFF }) [(0x00, 0x8000, [0xB8])])
    t.cpu.p = 0xBF := by decide

/-- R334. -/
theorem test_sec : let t := after (vec id [(0x00, 0x8000, [0x38])])
    t.cpu.p = 0x31 := by decide

/-- R335. -/
theorem test_sed : let t := after (vec id [(0x00, 0x8000, [0xF8])])
    t.cpu.p = 0x38 := by decide

/-- R336. -/
theorem test_sei : let t := after (vec id [(0x00, 0x8000, [0x78])])
    t.cpu.p = 0x34 := by decide

/-- R337. -/
theorem test_rep : let t := after (vec id [(0x00, 0x8000, [0xC2, 0x30])])
    t.cpu.p = 0x00 := by decide

/-- V92. -/
theorem test_rep_emulation : let t := after (vec (fun c => { c with e := true }) [(0x00, 0x8000, [0xC2, 0x30])])
    t.cpu.p = 0x30 := by decide

/-- R338. -/
theorem test_sep : let t := after (vec (fun c => { c with p := 0x00, x := 0x1234 }) [(0x00, 0x8000, [0xE2, 0x10])])
    t.cpu.p = 0x10 ∧ t.cpu.x = 0x0034 := by decide

/-- R339. -/
theorem test_xce_native : let t := after (vec (fun c => { c with e := true }) [(0x00, 0x8000, [0xFB])])
    t.cpu.e = false ∧ t.cpu.p = 0x31 := by decide

/-- V95. -/
theorem test_xce_emulation : let t := after (vec (fun c => { c with p := 0x01, s := 0x1FFF, x := 0x1234, y := 0x5678 }) [(0x00, 0x8000, [0xFB])])
    t.cpu.x = 0x0034 ∧ t.cpu.y = 0x0078 ∧ t.cpu.s = 0x01FF ∧ t.cpu.p = 0x30 ∧ t.cpu.e = true := by decide

/-- S1 and R340. -/
theorem test_nop : let t := after (vec id [(0x00, 0x8000, [0xEA])])
    t.cpu.pc = 0x8001 ∧ t.cpu.p = 0x30 := by decide

/-- R341. -/
theorem test_wdm : let t := after (vec id [(0x00, 0x8000, [0x42, 0x00])])
    t.cpu.pc = 0x8002 ∧ t.cpu.p = 0x30 := by decide

/-- R342. -/
theorem test_brk : let t := after (vec (fun c => { c with e := true, pb := 0x00, pc := 0x8004 }) [(0x00, 0x8004, [0x00, 0x00])])
    t.cpu.s = 0x01FC ∧ t.bus.peek 0x0001FF = 0x80 ∧ t.bus.peek 0x0001FE = 0x06 ∧ t.bus.peek 0x0001FD = 0x30 := by decide

/-- R343. -/
theorem test_cop : let t := after (vec (fun c => { c with pb := 0x01, pc := 0x9000 }) [(0x01, 0x9000, [0x02, 0x05])])
    t.cpu.s = 0x01FB ∧ t.cpu.pb = 0x00 ∧ t.bus.peek 0x0001FF = 0x01 ∧ t.bus.peek 0x0001FE = 0x90 ∧ t.bus.peek 0x0001FD = 0x02 ∧ t.bus.peek 0x0001FC = 0x30 ∧ t.cpu.p = 0x34 := by decide

/-- R344. -/
theorem test_rti : let t := after (vec (fun c => { c with e := true, s := 0x01FC, p := 0x3F }) [(0x00, 0x8000, [0x40]), (0x00, 0x01FD, [0x30, 0x06, 0x80])])
    t.cpu.p = 0x30 ∧ t.cpu.pc = 0x8006 ∧ t.cpu.s = 0x01FF := by decide

/-- R345. -/
theorem test_wai : let t := after (vec (fun c => { c with p := 0x34 }) [(0x00, 0x8000, [0xCB])])
    t.cpu.run = .waiting ∧ t.cpu.pc = 0x8001 := by decide

/-- R346. -/
theorem test_stp : let t := after (vec id [(0x00, 0x8000, [0xDB])])
    t.cpu.run = .stopped ∧ t.cpu.pc = 0x8001 := by decide

/-- R350. -/
theorem test_mvn : let t := after (vec (fun c => { c with p := 0x00, a := 0x0002, x := 0x1000, y := 0x2000 }) [(0x00, 0x8000, [0x54, 0x7F, 0x7E]), (0x7E, 0x1000, [0xA1])])
    t.cpu.a = 0x0001 ∧ t.cpu.x = 0x1001 ∧ t.cpu.y = 0x2001 ∧ t.cpu.db = 0x7F ∧ t.cpu.pc = 0x8000 ∧ t.bus.peek 0x7F2000 = 0xA1 := by decide

/-- R351. -/
theorem test_mvp : let t := after (vec (fun c => { c with p := 0x00, a := 0x0000, x := 0x1001, y := 0x2001 }) [(0x00, 0x8000, [0x44, 0x00, 0x00]), (0x00, 0x1001, [0xB2])])
    t.cpu.a = 0xFFFF ∧ t.cpu.x = 0x1000 ∧ t.cpu.y = 0x2000 ∧ t.cpu.pc = 0x8003 ∧ t.bus.peek 0x002001 = 0xB2 := by decide

/-! Interrupts and the platform registers. -/

/-- V112. -/
theorem test_nmi : let t := after (onBus (vec (fun c => { c with s := 0x1FFF, pb := 0x01, pc := 0x9000 }) [(0x01, 0x9000, [0xEA]), (0x00, 0xFFEA, [0x00, 0x85])]) fun b => { b with nmiPending := true })
    t.cpu.s = 0x1FFB ∧ t.cpu.pb = 0x00 ∧ t.cpu.pc = 0x8500 ∧ t.cpu.p = 0x34 ∧ t.bus.peek 0x001FFF = 0x01 ∧ t.bus.peek 0x001FFE = 0x90 ∧ t.bus.peek 0x001FFD = 0x00 ∧ t.bus.peek 0x001FFC = 0x30 ∧ t.bus.nmiPending = false := by decide

/-- V113. -/
theorem test_nmi_emulation : let t := after (onBus (vec (fun c => { c with e := true, p := 0x38 }) [(0x00, 0x8000, [0xEA]), (0x00, 0xFFFA, [0x00, 0x85])]) fun b => { b with nmiPending := true })
    t.cpu.s = 0x01FC ∧ t.cpu.pc = 0x8500 ∧ t.cpu.p = 0x34 ∧ t.bus.peek 0x0001FD = 0x28 := by decide

/-- V114. -/
theorem test_irq : let t := after (onBus (vec (fun c => { c with s := 0x1FFF }) [(0x00, 0x8000, [0xEA]), (0x00, 0xFFEE, [0x00, 0x86])]) fun b => { b with plat := { b.plat with timeup := true } })
    t.cpu.s = 0x1FFB ∧ t.cpu.pc = 0x8600 ∧ t.cpu.p = 0x34 ∧ t.bus.plat.timeup = true := by decide

/-- V115. -/
theorem test_irq_masked : let t := after (onBus (vec (fun c => { c with p := 0x34 }) [(0x00, 0x8000, [0xEA]), (0x00, 0xFFEE, [0x00, 0x86])]) fun b => { b with plat := { b.plat with timeup := true } })
    t.cpu.pc = 0x8001 ∧ t.cpu.p = 0x34 := by decide

/-- V117. -/
theorem test_nmi_before_irq : let t := after (onBus (vec id [(0x00, 0x8000, [0xEA]), (0x00, 0xFFEA, [0x00, 0x85]), (0x00, 0xFFEE, [0x00, 0x86])]) fun b => { b with nmiPending := true, plat := { b.plat with timeup := true } })
    t.cpu.pc = 0x8500 := by decide

/-- V118. -/
theorem test_wai_masked_irq : let t := after (onBus (vec (fun c => { c with p := 0x34, run := .waiting }) [(0x00, 0x8000, [0xEA])]) fun b => { b with plat := { b.plat with timeup := true } })
    t.cpu.pc = 0x8001 ∧ t.cpu.run = .running := by decide

/-- V120. -/
theorem test_stp_nmi : let t := after (onBus (vec (fun c => { c with run := .stopped }) [(0x00, 0x8000, [0xEA])]) fun b => { b with nmiPending := true })
    t.cpu.pc = 0x8000 ∧ t.cpu.run = .stopped ∧ t.bus.nmiPending = true := by decide

/-- V106. -/
theorem test_multiply : let t := after (vec (fun c => { c with a := 0x00FF }) [(0x00, 0x8000, [0x8D, 0x03, 0x42])])
    t.bus.peek 0x004216 = 0x01 ∧ t.bus.peek 0x004217 = 0xFE := by decide

/-- V107. -/
theorem test_divide : let t := after (onBus (vec (fun c => { c with a := 0x0002 }) [(0x00, 0x8000, [0x8D, 0x06, 0x42])]) fun b => { b with plat := { b.plat with wrdiv := 7 } })
    t.bus.peek 0x004214 = 0x03 ∧ t.bus.peek 0x004216 = 0x01 := by decide

/-- V108. -/
theorem test_divide_by_zero : let t := after (onBus (vec id [(0x00, 0x8000, [0x9C, 0x06, 0x42])]) fun b => { b with plat := { b.plat with wrdiv := 4660 } })
    t.bus.peek 0x004214 = 0xFF ∧ t.bus.peek 0x004215 = 0xFF ∧ t.bus.peek 0x004216 = 0x34 ∧ t.bus.peek 0x004217 = 0x12 := by decide

/-- V109. -/
theorem test_rdnmi : let t := after (onBus (vec id [(0x00, 0x8000, [0xAD, 0x10, 0x42])]) fun b => { b with plat := { b.plat with rdnmi := true } })
    t.cpu.a = 0x00C2 ∧ t.bus.plat.rdnmi = false := by decide

/-- V110. -/
theorem test_timeup : let t := after (onBus (vec (fun c => { c with p := 0x34 }) [(0x00, 0x8000, [0xAD, 0x11, 0x42])]) fun b => { b with plat := { b.plat with timeup := true } })
    t.cpu.a = 0x00C2 ∧ t.bus.plat.timeup = false := by decide

/-- V111. -/
theorem test_nmitimen : let t := after (onBus (vec (fun c => { c with p := 0x34 }) [(0x00, 0x8000, [0x9C, 0x00, 0x42])]) fun b => { b with plat := { b.plat with timeup := true } })
    t.bus.plat.timeup = false := by decide

/-- R350, whose every step sets DB, the reading false of log 29. -/
theorem test_mvn_operand : let t := after (onBus (vec (fun c => { c with p := 0x00, a := 0x0001, x := 0x1000, y := 0x2000, db := 0x00, moves := [{ opcode := 0x008000, bank := 0x7F }] }) [(0x00, 0x8000, [0x54, 0x7F, 0x7E]), (0x7E, 0x1000, [0xA1])]) fun b => { b with cfg := { b.cfg with moveKeepsDb := false } })
    t.cpu.db = 0x7F ∧ t.bus.peek 0x7F2000 = 0xA1 := by decide

/-- R505, the reading true of log 29. -/
theorem test_mvn_changed_db : let t := after (onBus (vec (fun c => { c with p := 0x00, a := 0x0001, x := 0x1000, y := 0x2000, db := 0x00, moves := [{ opcode := 0x008000, bank := 0x7F }] }) [(0x00, 0x8000, [0x54, 0x7F, 0x7E]), (0x7E, 0x1000, [0xA1])]) fun b => { b with cfg := { b.cfg with moveKeepsDb := true } })
    t.cpu.db = 0x00 ∧ t.bus.peek 0x002000 = 0xA1 := by decide

/-- R105, its first clause, with R88: the second byte is WMADDL. -/
theorem test_sta16_wmdata : let t := after (onBus (vec (fun c => { c with p := 0x10, a := 0xBEEF }) [(0x00, 0x8000, [0x8D, 0x80, 0x21])]) fun b => { b with wramPtr := 0x01234 })
    t.bus.peek 0x7E1234 = 0xEF ∧ t.bus.peek 0x7E1235 = 0x00 ∧ t.bus.wramPtr = 0x012BE := by decide

/-- R105, its example, the other reading of log 27. -/
theorem test_sta16_wmdata_wide : let t := after (onBus (vec (fun c => { c with p := 0x10, a := 0xBEEF }) [(0x00, 0x8000, [0x8D, 0x80, 0x21])]) fun b => { b with wramPtr := 0x01234, cfg := { b.cfg with wideWmdata := true } })
    t.bus.peek 0x7E1234 = 0xEF ∧ t.bus.peek 0x7E1235 = 0xBE ∧ t.bus.wramPtr = 0x01236 := by decide

/-- R436. -/
theorem test_joy2h : let t := after (onBus (vec id [(0x00, 0x8000, [0xAD, 0x1B, 0x42])]) fun b => { b with plat := { b.plat with joy := { b.plat.joy with r1 := 0xBEEF } } })
    t.cpu.a = 0x00BE := by decide

/-! Witnesses: for every statement with hypotheses, and for each of its clauses, a concrete state and operands that meet them. -/

/-- Native, 8-bit widths, X = 2, Y = 1, S = 0x1FF in WRAM, bytes on the direct page, pointers and code. -/
def sA : State :=
  vec (fun c => { c with x := 0x0002, y := 0x0001 })
    [(0x00, 0x0010, [0x34, 0x12, 0x7E]), (0x00, 0x01F0, [0x01, 0x02, 0x03, 0x04]), (0x00, 0x8000, [0xA9, 0x12]),
     (0x00, 0x9000, [0x00, 0xA0, 0x7F])]

/-- The same with 16-bit widths, and S = 0x01EF under listed bytes. -/
def sB : State := { sA with cpu := { sA.cpu with p := 0x00, s := 0x01EF } }

/-- The same in emulation mode, DL = 0. -/
def sE : State := { sA with cpu := { sA.cpu with e := true, s := 0x01EF } }

/-- In a frame, at the end of a scanline's slice. -/
def sF (line left : Nat) : State := { sA with frame := some { line := line, left := left, timerAt := 1 } }

theorem sA_stores : sA.bus.StoresWf := ⟨by decide, by decide, by decide, by decide, by decide, by decide⟩
theorem sA_inv : sA.Inv :=
  ⟨⟨fun _ => by decide, fun h => absurd h (by decide)⟩, sA_stores⟩
theorem sE_inv : sE.Inv := ⟨⟨fun _ => by decide, fun _ => by decide⟩, sA_stores⟩

theorem witness_DecodeEncode :
    (Instr.ldaImm 0xFFFF).wellFormed .b16 .b8 = true ∧ (Instr.ldaImm 0x00FF).wellFormed .b8 .b8 = true := by decide
theorem witness_DecodeSound : decode .b8 .b8 [0xA9, 0xFF, 0x12] = .ok (.ldaImm 0xFF, [0x12]) := rfl
theorem witness_InstructionLengths_decode : decode .b16 .b8 (0xA9 :: [0xFF, 0x12, 0x00]) = .ok (.ldaImm 0x12FF, [0x00]) := rfl
theorem witness_InstructionLengths_emulation : sE.cpu.EmulationInv ∧ sE.cpu.e = true := ⟨sE_inv.1.2, rfl⟩

theorem ready_sA : Ready sA := ⟨rfl, rfl, rfl, rfl, fun h => absurd h (by decide)⟩
theorem witness_StepRunsDecodedInstruction_stores :
    Ready sA ∧ standsAtPc sA [0xA9, 0x12] ∧ decode sA.cpu.m sA.cpu.xw [0xA9, 0x12] = .ok (.ldaImm 0x12, []) := by
  refine ⟨ready_sA, ?_, rfl⟩
  show ∀ k, k < 2 → sA.bus.storeByte (mkAddr sA.cpu.pb (sA.cpu.pc + BitVec.ofNat 16 k)) = ([0xA9, 0x12] : List Byte)[k]?
  decide
theorem witness_StepRunsDecodedInstruction_fetches :
    Ready sA ∧ decode sA.cpu.m sA.cpu.xw (State.fetchBytes 2 sA).bytes = .ok (.ldaImm 0x12, []) ∧
    fetchedLate (State.fetchBytes 2 sA).bytes = false := ⟨ready_sA, rfl, by decide⟩

theorem witness_StepPriority_reset : ({ sA with resetRequest := true } : State).frame = none := rfl
theorem witness_StepPriority_stopped :
    let s : State := { sA with cpu := { sA.cpu with run := .stopped } }
    s.frame = none ∧ s.resetRequest = false ∧ s.cpu.run = .stopped := by decide
theorem witness_StepPriority_nmi :
    let s := onBus sA fun b => { b with nmiPending := true }
    s.frame = none ∧ s.resetRequest = false ∧ s.cpu.run ≠ .stopped ∧ s.bus.nmiPending = true := by decide
theorem witness_StepPriority_irq :
    let s := onBus sA fun b => { b with plat := { b.plat with timeup := true } }
    s.frame = none ∧ s.resetRequest = false ∧ s.cpu.run ≠ .stopped ∧ s.bus.nmiPending = false ∧ s.bus.plat.timeup = true ∧
      fI s = false := by decide
theorem witness_StepPriority_waiting :
    let s : State := { sA with cpu := { sA.cpu with run := .waiting } }
    s.frame = none ∧ s.resetRequest = false ∧ s.cpu.run = .waiting ∧ s.bus.nmiPending = false ∧ s.bus.plat.timeup = false := by
  decide
theorem witness_StepPriority_wake :
    let s := onBus { sA with cpu := { sA.cpu with run := .waiting, p := 0x34 } } fun b =>
      { b with plat := { b.plat with timeup := true } }
    s.frame = none ∧ s.resetRequest = false ∧ s.cpu.run = .waiting ∧ s.bus.nmiPending = false ∧ s.bus.plat.timeup = true ∧
      fI s = true := by decide

theorem witness_FrameScheduleStep_slice : (sF 0 1).frame = some { line := 0, left := 0 + 1, timerAt := 1 } := rfl
theorem witness_FrameScheduleStep_timer :
    hTimerFires { sA.bus with plat := { sA.bus.plat with nmitimen := 0x30, htime := 339, vtime := 7 } }
      { line := 7, left := 1, timerAt := 1 } = true := by decide
theorem witness_FrameScheduleStep_next :
    (sF 260 0).frame = some { line := 260, left := 0, timerAt := 1 } ∧ 260 + 1 < (sF 260 0).bus.cfg.linesPerFrame := by decide
theorem witness_FrameScheduleStep_end :
    (sF 261 0).frame = some { line := 261, left := 0, timerAt := 1 } ∧ (sF 261 0).bus.cfg.linesPerFrame ≤ 261 + 1 := by decide
theorem witness_FrameEnds : (sF 0 1).frame = some { line := 0, left := 1, timerAt := 1 } := rfl
theorem witness_StepKeepsInvariant : sA.Inv ∧ step sA = .next (after sA) := ⟨sA_inv, rfl⟩
theorem witness_VBlankEvent_vblank :
    (sF 224 0).frame = some { line := 224, left := 0, timerAt := 1 } ∧ (224 ≠ 0 ∨ (sF 224 0).bus.cfg.vblankLine ≠ 0) ∧
    224 = (sF 224 0).bus.cfg.vblankLine := by decide
theorem witness_VBlankEvent_first :
    (sF 0 0).frame = some { line := 0, left := 0, timerAt := 1 } ∧ (0 ≠ 0 ∨ (sF 0 0).bus.cfg.vblankLine ≠ 0) := by decide
theorem witness_VBlankEvent_other :
    (sF 225 0).frame = some { line := 225, left := 0, timerAt := 1 } ∧ 225 ≠ 0 ∧ 225 ≠ (sF 225 0).bus.cfg.vblankLine := by
  decide

theorem witness_InterruptEntry_vector :
    word2 (pushBytes false sA (entryBytes .nmi sA.cpu)).bus 0 (vectorOffset .nmi sA.cpu.e) 0x00 0x00 := ⟨by decide, by decide⟩
theorem witness_InterruptStack :
    sA.bus.StoresWf ∧ ∀ j, j < (entryBytes .nmi sA.cpu).length → (stackDown false sA.cpu j).toNat ≤ 0x1FFF :=
  ⟨sA_stores, by decide⟩
theorem witness_InterruptStack_emulation :
    ∀ j, j < (entryBytes .irq sE.cpu).length → (stackDown false sE.cpu j).toNat ≤ 0x1FFF := by decide
theorem witness_VectorTable_entry : word2 (sA.pushFrame .brk).bus 0 (IntKind.vector .brk sA.cpu.e) 0x00 0x00 :=
  ⟨by decide, by decide⟩
theorem witness_VectorTable_reset : word2 sA.bus 0 0xFFFC 0x00 0x00 := ⟨by decide, by decide⟩
theorem witness_ReturnFromInterrupt_emulation :
    pullByte false sE 1 = some 0x01 ∧ pullByte false sE 2 = some 0x02 ∧ pullByte false sE 3 = some 0x03 ∧
    sE.cpu.e = true := by decide
theorem witness_ReturnFromInterrupt_native :
    pullByte false sB 1 = some 0x01 ∧ pullByte false sB 2 = some 0x02 ∧ pullByte false sB 3 = some 0x03 ∧
    sB.cpu.e = false ∧ pullByte false sB 4 = some 0x04 := by decide
theorem witness_EntryThenReturn : sA.Inv ∧ ∀ j, j < 4 → (stackDown false sA.cpu j).toNat ≤ 0x1FFF := ⟨sA_inv, by decide⟩
theorem witness_EntryThenReturn_emulation : sE.Inv ∧ ∀ j, j < 4 → (stackDown false sE.cpu j).toNat ≤ 0x1FFF :=
  ⟨sE_inv, by decide⟩
theorem witness_HostReset : word2 sA.bus 0 0xFFFC 0x00 0x00 := ⟨by decide, by decide⟩

theorem witness_RegisterWriters_none :
    (∃ t, exec .nop sA = .next t) ∧ ∀ l ∈ [aWriters, xWriters, yWriters, sWriters, dWriters, dbWriters, pbWriters, pcWriters],
      Instr.nop.mnemonic ∉ l := ⟨⟨_, rfl⟩, by decide⟩
theorem witness_RegisterWriters_xce :
    let s : State := { sB with cpu := { sB.cpu with p := 0x01, x := 0x1234, y := 0x5678 } }
    ∃ t, exec .xce s = .next t ∧ t.cpu.x ≠ s.cpu.x ∧ t.cpu.s = s.cpu.s := ⟨_, rfl, by decide, by decide⟩
theorem witness_FlagWriters : (∃ t, exec .nop sA = .next t) ∧ Instr.nop.mnemonic ∉ statusWriters := ⟨⟨_, rfl⟩, by decide⟩
theorem witness_FlagWriters_bit : ∃ t, exec (.bitImm 0x02) sA = .next t := ⟨_, rfl⟩
theorem witness_NonStoringKeepMemory :
    (∃ t, exec .tax sA = .next t) ∧ registersOnly .tax = true ∧
    (∃ t, exec (.ldaDp 0x10) sA = .next t) ∧ storesToMemory (.ldaDp 0x10) = false := ⟨⟨_, rfl⟩, by decide, ⟨_, rfl⟩, by decide⟩

theorem witness_StoresWriteTheirBytes : storeForm (.staDp 0x10) = some (.sta, .dp 0x10) := rfl
theorem witness_StoreFrame_wram :
    ∃ t, storeForm (.staDp 0x10) = some (.sta, .dp 0x10) ∧ exec (.staDp 0x10) sB = .next t ∧ sB.bus.StoresWf ∧
      storeAddrs (sB.ea (.dp 0x10)).st (storeWidth .sta sB) (sB.ea (.dp 0x10)).loc = [0x000010, 0x000011] ∧
      (busTarget sB.bus.cfg sB.bus.cart 0x000010).plain = true ∧ (busTarget sB.bus.cfg sB.bus.cart 0x000011).plain = true ∧
      (busTarget sB.bus.cfg sB.bus.cart 0x000010).isRam = true ∧ (busTarget sB.bus.cfg sB.bus.cart 0x000011).isRam = true ∧
      busTarget sB.bus.cfg sB.bus.cart 0x000010 ≠ busTarget sB.bus.cfg sB.bus.cart 0x000011 :=
  ⟨_, rfl, rfl, sA_stores, rfl, by decide, by decide, by decide, by decide, by decide⟩
/-- 16-bit widths, the WRAM pointer at 0x1234, with the parameter of log 27 at either value. -/
def sW (wide : Bool) : State :=
  onBus { sB with cpu := { sB.cpu with a := 0xBEEF } } fun b =>
    { b with wramPtr := 0x01234, cfg := { b.cfg with wideWmdata := wide } }

theorem witness_StoresWriteTheirBytes_wmdata :
    storeAddrs ((sW false).ea (.abs 0x2180)).st (storeWidth .sta (sW false)) ((sW false).ea (.abs 0x2180)).loc =
      [0x002180, 0x002181] ∧
    storeAddrs ((sW true).ea (.abs 0x2180)).st (storeWidth .sta (sW true)) ((sW true).ea (.abs 0x2180)).loc =
      [0x002180, 0x002180] := by decide
theorem witness_StoreFrame_rom :
    ∃ t, exec (.staAbs 0x8000) sA = .next t ∧
      storeAddrs (sA.ea (.abs 0x8000)).st (storeWidth .sta sA) (sA.ea (.abs 0x8000)).loc = [0x008000] ∧
      (busTarget sA.bus.cfg sA.bus.cart 0x008000).plain = true := ⟨_, rfl, rfl, by decide⟩
theorem witness_ModifyFrame :
    ∃ t, modifyForm (.incDp 0x10) = some (.inc, .dp 0x10) ∧ exec (.incDp 0x10) sA = .next t ∧
      operandAddrs (sA.ea (.dp 0x10)).st (mWidth sA) (sA.ea (.dp 0x10)).loc = [0x000010] ∧
      (busTarget sA.bus.cfg sA.bus.cart 0x000010).plain = true := ⟨_, rfl, rfl, rfl, by decide⟩
theorem witness_PushFrame :
    ∃ t, Instr.pha.mnemonic ∈ pushMnemonics ∧ exec .pha sB = .next t ∧ pushAddrs .pha sB = [0x0001EF, 0x0001EE] ∧
      (busTarget sB.bus.cfg sB.bus.cart 0x0001EF).plain = true ∧ (busTarget sB.bus.cfg sB.bus.cart 0x0001EE).plain = true :=
  ⟨_, by decide, rfl, by decide, by decide, by decide⟩
theorem witness_PushFrame_call :
    ∃ t, (Instr.jsl 0x018000).mnemonic = "JSL" ∧ exec (.jsl 0x018000) sA = .next t ∧
      pushAddrs (.jsl 0x018000) sA = [0x0001FF, 0x0001FE, 0x0001FD] ∧
      (busTarget sA.bus.cfg sA.bus.cart 0x0001FD).plain = true := ⟨_, by decide, rfl, by decide, by decide⟩

theorem witness_LoadsWriteTheirRegister :
    readForm (.ldaDp 0x10) = some (.lda, .mem (.dp 0x10)) ∧ readForm (.ldxImm 0xFF) = some (.ldx, .imm 0xFF) ∧
    readForm (.ldyAbs 0x10) = some (.ldy, .mem (.abs 0x10)) := ⟨rfl, rfl, rfl⟩
theorem witness_OperandValues_b8 :
    sA.bus.storeByte ((sA.ea (.dp 0x10)).st.addrOf (sA.ea (.dp 0x10)).loc 0) = some 0x34 ∧ Width.b8 ≠ Width.b16 := by decide
theorem witness_OperandValues_b16 :
    sA.bus.storeByte ((sA.ea (.dpInd 0x10)).st.addrOf (sA.ea (.dpInd 0x10)).loc 0) = some 0x00 ∧
    sA.bus.storeByte ((sA.ea (.dpInd 0x10)).st.addrOf (sA.ea (.dpInd 0x10)).loc 1) = some 0x00 := by decide
theorem witness_EffectiveAddresses_plain :
    plainAddr sE 0 (.dpX 0xFF) = some 0x000001 ∧ plainAddr sA 0 (.dpX 0xFF) = some 0x000101 := by decide
theorem witness_EffectiveAddresses_pointer :
    (pointerAddrs sA (.dpIndLongY 0x10)).map sA.bus.storeByte = [0x34, 0x12, 0x7E].map some ∧
    pointedAddr sA [0x34, 0x12, 0x7E] (.dpIndLongY 0x10) = some 0x7E1235 := by decide
theorem witness_AddAndSubtract :
    readForm (.adcImm 0x01) = some (.adc, .imm 0x01) ∧ readForm (.sbcDp 0x10) = some (.sbc, .mem (.dp 0x10)) := ⟨rfl, rfl⟩
theorem witness_BinaryArithmetic :
    low .b8 0x00FF = 0x00FF ∧ low .b8 0x0080 = 0x0080 ∧ low .b16 0xFFFF = 0xFFFF := by decide
theorem validBcd_8 : validBcd .b8 0x0099 ∧ validBcd .b8 0x0000 := ⟨⟨by decide, by decide⟩, ⟨by decide, by decide⟩⟩
theorem validBcd_16 : validBcd .b16 0x9999 ∧ validBcd .b16 0x0001 := ⟨⟨by decide, by decide⟩, ⟨by decide, by decide⟩⟩
theorem witness_DecimalArithmetic :
    (validBcd .b8 0x0099 ∧ validBcd .b8 0x0000) ∧ validBcd .b16 0x9999 ∧ validBcd .b16 0x0001 := ⟨validBcd_8, validBcd_16⟩
theorem witness_Compares_cmp :
    readForm (.cmpImm 0x00) = some (.cmp, .imm 0x00) ∧ Width.b8 = mWidth sA ∧ (0x0000 : Word) = low .b8 sA.cpu.a :=
  ⟨rfl, by decide, by decide⟩
theorem witness_Compares_cpx :
    readForm (.cpxImm 0x03) = some (.cpx, .imm 0x03) ∧ Width.b8 = xWidth sA ∧ (0x0002 : Word) = low .b8 sA.cpu.x :=
  ⟨rfl, by decide, by decide⟩
theorem witness_Compares_cpy :
    readForm (.cpyDp 0x10) = some (.cpy, .mem (.dp 0x10)) ∧ Width.b16 = xWidth sB ∧ (0x0001 : Word) = low .b16 sB.cpu.y :=
  ⟨rfl, by decide, by decide⟩
theorem witness_LogicAndBitTest_logic :
    readForm (.oraDp 0x10) = some (.ora, .mem (.dp 0x10)) ∧
    logicResult .ora (low (mWidth sA) sA.cpu.a) (sA.operand (mWidth sA) (.mem (.dp 0x10))).v = some 0x0034 := ⟨rfl, by decide⟩
theorem witness_LogicAndBitTest_bit :
    readForm (.bitDp 0x10) = some (.bit, .mem (.dp 0x10)) ∧ readForm (.bitImm 0xC0) = some (.bit, .imm 0xC0) := ⟨rfl, rfl⟩
theorem witness_ReadModifyWrite :
    modifyForm (.rorAbsX 0x10) = some (.ror, .absX 0x10) ∧ accForm .rorAcc = some .ror := ⟨rfl, rfl⟩

theorem witness_Branches : branchForm (.bne 0xFE) = some (1, false, 0xFE) := rfl
theorem witness_Jumps_ind : word2 sA.bus 0 0x0010 0x34 0x12 := ⟨by decide, by decide⟩
theorem witness_Jumps_absXInd : word2 sA.bus sA.cpu.pb (0x8FFE + sA.cpu.x) 0x00 0xA0 := ⟨by decide, by decide⟩
theorem witness_Jumps_long : word2 sA.bus 0 0x0010 0x34 0x12 ∧ sA.bus.storeByte (mkAddr 0 (0x0010 + 2)) = some 0x7E :=
  ⟨⟨by decide, by decide⟩, by decide⟩
theorem witness_Calls_absXInd :
    let t := pushWord (newNoWrap sA) sA sA.cpu.pc
    t.bus.storeByte (mkAddr sA.cpu.pb sA.cpu.pc) = some 0xA9 ∧ word2 t.bus sA.cpu.pb (mkWord 0xA9 0x00 + sA.cpu.x) 0x00 0x00 :=
  ⟨by decide, by decide, by decide⟩
theorem witness_Calls_jsl :
    (pushBytes (newNoWrap sA) sA [sA.cpu.pb]).bus.storeByte (mkAddr sA.cpu.pb sA.cpu.pc) = some 0xA9 := by decide
theorem witness_Returns_rts : pullByte false sB 1 = some 0x01 ∧ pullByte false sB 2 = some 0x02 := by decide
theorem witness_Returns_rtl :
    pullByte (newNoWrap sB) sB 1 = some 0x01 ∧ pullByte (newNoWrap sB) sB 2 = some 0x02 ∧
    pullByte (newNoWrap sB) sB 3 = some 0x03 := by decide
theorem witness_CallThenReturn :
    sA.bus.StoresWf ∧ (∀ j, j < 3 → (stackDown false sA.cpu j).toNat ≤ 0x1FFF) ∧ newNoWrap sA = false ∧
    sA.bus.storeByte (mkAddr sA.cpu.pb sA.cpu.pc) = some 0xA9 ∧
    busTarget sA.bus.cfg sA.bus.cart (mkAddr sA.cpu.pb sA.cpu.pc) ≠ busTarget sA.bus.cfg sA.bus.cart (mkAddr 0 sA.cpu.s) :=
  ⟨sA_stores, by decide, by decide, by decide, by decide⟩
theorem witness_Pushes_pei : word2 sA.bus 0 (sA.cpu.d + zext 0x10) 0x34 0x12 := ⟨by decide, by decide⟩
theorem witness_Pulls_b8 :
    pulledWord false sE (mWidth sE) 0x01 0x00 ∧ pulledWord false sE (xWidth sE) 0x01 0x00 :=
  ⟨⟨by decide, fun h => absurd h (by decide)⟩, by decide, fun h => absurd h (by decide)⟩
theorem witness_Pulls_b16 :
    pulledWord false sB (mWidth sB) 0x01 0x02 ∧ pulledWord false sB (xWidth sB) 0x01 0x02 ∧
    pulledWord (newNoWrap sB) sB .b16 0x01 0x02 ∧ pullByte false sB 1 = some 0x01 :=
  ⟨⟨by decide, fun _ => by decide⟩, ⟨by decide, fun _ => by decide⟩, ⟨by decide, fun _ => by decide⟩, by decide⟩
theorem witness_StatusInstructions_xce :
    fC sA = false ∧ fC ({ sA with cpu := { sA.cpu with p := 0x31 } } : State) = true := by decide
theorem witness_BlockMoves :
    sA.bus.storeByte (mkAddr 0x00 sA.cpu.x) = some 0x00 ∧ sA.bus.StoresWf ∧
    (busTarget sA.bus.cfg sA.bus.cart (mkAddr 0x7E sA.cpu.y)).isRam = true ∧
    (busTarget sA.bus.cfg sA.bus.cart (mkAddr 0x7E sA.cpu.y)).plain = true :=
  ⟨by decide, sA_stores, by decide, by decide⟩

/-- In the middle of a block move at 00:8000 into bank 0x7F, PC past its bytes, with DB at another bank. -/
def sM : State :=
  onBus { sA with cpu := { sA.cpu with
    pc := 0x8003, a := 0x0001, db := 0x7E, moves := [{ opcode := 0x008000, bank := 0x7F }] } } fun b =>
    { b with cfg := { b.cfg with moveKeepsDb := true } }

theorem witness_BlockMoves_changed_db :
    sM.bus.storeByte (mkAddr 0x00 sM.cpu.x) = some 0x00 ∧ destination sM 0x7F = 0x7E ∧ destination sA 0x7F = 0x7F ∧
    (∃ t, exec (.mvn 0x7F 0x00) sM = .next t) ∧ sM.bus.cfg.moveKeepsDb = true ∧ sM.cpu.a ≠ 0 ∧
    (0x00 : Byte) ≠ recorded sM 0x7F :=
  ⟨by decide, by decide, by decide, ⟨_, rfl⟩, by decide, by decide, by decide⟩

theorem witness_WramMap : isSystemBank 0x3F ∧ isSystemBank 0x80 ∧ (0x1FFF : Word).toNat ≤ 0x1FFF :=
  ⟨Or.inl (by decide), Or.inr (by decide), by decide⟩
/-- A HiROM cartridge with SRAM. -/
def sH : State := onBus sA fun b => { b with cart := { b.cart with mapper := .hiROM, sramSize := 0x2000 } }

/-- A LoROM cartridge with SRAM. -/
def sL : State := onBus sA fun b => { b with cart := { b.cart with sramSize := 0x8000 } }

theorem isCartridge_system : isCartridge 0x3F 0x7FFF ∧ isCartridge 0x00 0xFFFF ∧ isCartridge 0x00 0x2000 :=
  ⟨⟨by decide, by decide, fun _ => by decide⟩, ⟨by decide, by decide, fun _ => by decide⟩, by decide, by decide, fun _ => by decide⟩
theorem isCartridge_other : isCartridge 0x7D 0x7FFF :=
  ⟨by decide, by decide, fun h => h.elim (fun k => absurd k (by decide)) (fun k => absurd k.1 (by decide))⟩
theorem witness_CartridgeMap_rom :
    isCartridge 0x00 0xFFFF ∧ romIndex sA.bus (0x00 : Byte).toNat (0xFFFF : Word).toNat = some 0x7FFF ∧
    romIndex sH.bus (0x00 : Byte).toNat (0xFFFF : Word).toNat = some 0x7FFF := ⟨isCartridge_system.2.1, by decide, by decide⟩
theorem witness_CartridgeMap_sram :
    (isCartridge 0x7D 0x7FFF ∧ romIndex sL.bus (0x7D : Byte).toNat (0x7FFF : Word).toNat = none ∧
      sramIndex sL.bus (0x7D : Byte).toNat (0x7FFF : Word).toNat = some 0x7FFF) ∧
    isCartridge 0x3F 0x7FFF ∧ romIndex sH.bus (0x3F : Byte).toNat (0x7FFF : Word).toNat = none ∧
      sramIndex sH.bus (0x3F : Byte).toNat (0x7FFF : Word).toNat = some 0x1FFF :=
  ⟨⟨isCartridge_other, by decide, by decide⟩, isCartridge_system.1, by decide, by decide⟩
theorem witness_CartridgeMap_unmapped :
    isCartridge 0x00 0x2000 ∧ romIndex sA.bus (0x00 : Byte).toNat (0x2000 : Word).toNat = none ∧
    sramIndex sA.bus (0x00 : Byte).toNat (0x2000 : Word).toNat = none := ⟨isCartridge_system.2.2, by decide, by decide⟩
theorem witness_DeviceRegisters :
    isSystemBank 0xBF ∧ (0x4200 : Word).toNat ≤ 0x420F ∧ (0x420E : Word).toNat ≤ 0x421F ∧ (0x421F : Word).toNat ≤ 0x421F ∧
    (0xC : BitVec 4).toNat ≤ 0xE ∧ (0xB : BitVec 4).toNat ≤ 0xB ∧
    ((1 : BitVec 3) ≠ 0 ∨ dmaByteNumber 0xF ≠ dmaByteNumber 0xB) ∧
    ((0 : BitVec 3) ≠ 0 ∨ dmaByteNumber 0xA ≠ dmaByteNumber 0xF) :=
  ⟨Or.inr (by decide), by decide, by decide, by decide, by decide, by decide, by decide, by decide⟩
theorem witness_DeviceRegisters_joypads :
    (15 : Nat) < 16 ∧ (3 : Nat) < 4 ∧ (1 : Nat) ≤ 1 ∧ (5 : Nat) ≤ 5 := by decide
theorem witness_OpenBusLatch :
    busTarget sA.bus.cfg sA.bus.cart 0x002180 ≠ .platform 0x0B ∧ busTarget sA.bus.cfg sA.bus.cart 0x002180 ≠ .platform 0x0C ∧
    busTarget sA.bus.cfg sA.bus.cart 0x00420A ≠ .platform 0x0B ∧ busTarget sA.bus.cfg sA.bus.cart 0x00420D ≠ .platform 0x0C ∧
    busTarget sA.bus.cfg sA.bus.cart 0x006000 = .unmapped ∧ busTarget sA.bus.cfg sA.bus.cart 0x00FFFF = .rom 0x7FFF := by decide
theorem witness_systemBank : isSystemBank 0x00 ∧ isSystemBank 0xBF := ⟨Or.inl (by decide), Or.inr (by decide)⟩
theorem witness_MultiplyAndDivide : isSystemBank 0x00 ∧ (0x01 : Byte) ≠ 0 ∧ (0xFF : Byte) ≠ 0 :=
  ⟨Or.inl (by decide), by decide, by decide⟩

/-- Source: R424, R438 and R447, by hand: 0x02 and then 0x01 written under `after_slice` run as channel 1 and then channel 0, each one
byte of WRAM to WMDATA. -/
theorem test_after_slice_order :
    let ch : Channel := { Channel.reset with bbad := 0x80, a1b := 0x7E, a1t := 0x2000, das := 1 }
    let b : Bus := (vec id [(0x7E, 0x2000, [0x11, 0x22])]).bus
    let b1 : Bus := { b with
      cfg := { b.cfg with dmaTiming := .afterSlice }, dma := (b.dma.set 0 ch).set 1 { ch with a1t := 0x2001 } }
    let b2 := (b1.write 0x00420B 0x02).write 0x00420B 0x01
    b2.wram = b.wram ∧ b2.runPending.peek 0x7E0000 = 0x22 ∧ b2.runPending.peek 0x7E0001 = 0x11 ∧
      b2.runPending.dmaPending = [] := by decide

/-- Channel 0 set to carry two bytes of ROM from 00:9000 to WMDATA. -/
def sD : State := onBus sA fun b =>
  { b with dma := b.dma.set 0 { Channel.reset with bbad := 0x80, a1t := 0x9000, das := 2 } }

theorem sD_stores : sD.bus.StoresWf := ⟨by decide, by decide, by decide, by decide, by decide, by decide⟩

theorem witness_GeneralDma :
    sD.bus.StoresWf ∧ (sD.bus.dma.get 0).dmap = 0x00 ∧ (sD.bus.dma.get 0).bbad = 0x80 ∧ (sD.bus.dma.get 0).das.toNat = 2 ∧
    inRom sD.bus 2 (fun k => mkAddr 0x00 (0x9000 + BitVec.ofNat 16 k)) := by
  refine ⟨sD_stores, by decide, by decide, by decide, ?_⟩
  rintro (_ | _ | k) h
  · exact ⟨0x1000, by decide⟩
  · exact ⟨0x1001, by decide⟩
  · exact absurd h (by omega)
theorem witness_GeneralDma_trigger :
    isSystemBank 0x3F ∧ sD.bus.cfg.dmaTiming = .immediate ∧
    (onBus sD fun b => { b with cfg := { b.cfg with dmaTiming := .afterSlice } }).bus.cfg.dmaTiming = .afterSlice ∧
    (0x01 : Byte) ≠ 0 :=
  ⟨Or.inl (by decide), by decide, by decide, by decide⟩

/-- Channel 0 at a table in the WRAM of bank 0x7E: header 0x81, a pointer to 80:9000, then an end marker. -/
def sT (dmap : Byte) : State :=
  onBus (vec id [(0x7E, 0x2000, [0x81, 0x00, 0x90, 0x00, 0xFF, 0xFF])]) fun b =>
    { b with dma := b.dma.set 0 { Channel.reset with
        dmap := dmap, bbad := 0x80, a1t := 0x2000, a1b := 0x7E, a2a := 0x2000, das := 0x9000, dasb := 0x80, ntrl := 0x81,
        doTransfer := true, terminated := false } }

theorem witness_HdmaLines_init_direct :
    let ch := (sT 0x00).bus.dma.get 0
    headerAt (sT 0x00).bus { ch with a2a := ch.a1t } 0x81 0 0 (isIndirect ch) := ⟨by decide, fun h => absurd h (by decide)⟩
theorem witness_HdmaLines_init_indirect :
    let ch := (sT 0x40).bus.dma.get 0
    isIndirect ch = true ∧ headerAt (sT 0x40).bus { ch with a2a := ch.a1t } 0x81 0x00 0x90 (isIndirect ch) :=
  ⟨by decide, by decide, fun _ => ⟨by decide, by decide⟩⟩
theorem witness_HdmaLines_hold :
    let ch : Channel := { Channel.reset with ntrl := 0x02, terminated := false }
    ch.doTransfer = false ∧ ¬finishes ch := ⟨rfl, show ¬ _ = _ by decide⟩
theorem witness_HdmaLines_transfer :
    let ch : Channel := { Channel.reset with ntrl := 0x82, doTransfer := true, terminated := false }
    ch.doTransfer = true ∧ ¬finishes ch := ⟨rfl, show ¬ _ = _ by decide⟩
theorem witness_HdmaLines_reload :
    let ch := { (sT 0x40).bus.dma.get 0 with doTransfer := false }
    ch.doTransfer = false ∧ finishes ch ∧ headerAt (sT 0x40).bus ch 0x81 0x00 0x90 (isIndirect ch && decide ((0x81 : Byte) ≠ 0)) :=
  ⟨rfl, show _ = _ by decide, by decide, fun _ => ⟨by decide, by decide⟩⟩
theorem witness_HdmaLines_reload_end :
    let ch := { (sT 0x40).bus.dma.get 0 with doTransfer := false, a2a := 0x2003 }
    headerAt (sT 0x40).bus ch 0x00 0 0 (isIndirect ch && decide ((0x00 : Byte) ≠ 0)) :=
  ⟨by decide, fun h => absurd h (by decide)⟩

/-- Channel 0 at the last line of an entry of a table in ROM. -/
def sR (dmap : Byte) : State :=
  onBus sA fun b => { b with dma := b.dma.set 0 { Channel.reset with
    dmap := dmap, bbad := 0x80, a1b := 0x80, a2a := 0x9100, das := 0x9000, dasb := 0x80, ntrl := 0x81,
    doTransfer := true, terminated := false } }

theorem witness_HdmaLines_transferring_reload :
    let ch := (sR 0x00).bus.dma.get 0
    ch.doTransfer = true ∧ finishes ch ∧ inRom (sR 0x00).bus 1 (tableAddr (afterUnit ch)) ∧
      headerAt (sR 0x00).bus (afterUnit ch) 0x00 0 0 (isIndirect ch && decide ((0x00 : Byte) ≠ 0)) := by
  refine ⟨rfl, show _ = _ by decide, ?_, by decide, fun h => absurd h (by decide)⟩
  rintro (_ | k) h
  · exact ⟨0x1101, by decide⟩
  · exact absurd h (by omega)
theorem witness_HdmaLines_carried :
    let ch := (sR 0x42).bus.dma.get 0
    (sR 0x42).bus.StoresWf ∧ ch.doTransfer = true ∧ ch.dmap.getLsbD 7 = false ∧ ch.bbad = 0x80 ∧
      (∀ o ∈ dmaPattern (ch.dmap.setWidth 3), o = 0) ∧ unitLength ch = 2 ∧ inRom (sR 0x42).bus (unitLength ch) (unitAddr ch) := by
  refine ⟨⟨by decide, by decide, by decide, by decide, by decide, by decide⟩, rfl, by decide, rfl, by decide, by decide, ?_⟩
  rintro (_ | _ | k) h
  · exact ⟨0x1000, by decide⟩
  · exact ⟨0x1001, by decide⟩
  · exact absurd h (by rw [show unitLength _ = 2 by decide]; omega)
theorem witness_HdmaLines_none :
    ∀ k, sD.bus.plat.hdmaen.getLsbD (k : BitVec 3).toNat = false ∨ (sD.bus.dma.get k).terminated = true := by decide

end Sys2Proof.Tests
end

section
/-! Proofs about the state: the invariant of the machine at reset and along every step, and what the spec gives of the reset
state. -/
namespace Sys2Proof.Machine

/-- A step of the processor, of any kind `cpuStep` takes, keeps the invariant. -/
theorem State.cpuStep_keeps_inv {s t : State} (hi : s.Inv) (h : s.cpuStep = .next t) : t.Inv :=
  let ⟨hbus, hcpu, _⟩ := State.cpuStep_keeps h
  ⟨hcpu hi.1, hbus.storesWf hi.2⟩

/-- A bus operation outside the processor keeps the invariant. -/
theorem State.Inv.of_bus_keeps {s t : State} (hi : s.Inv) (hcpu : t.cpu = s.cpu) (hbus : s.bus.Keeps t.bus) : t.Inv :=
  ⟨hcpu ▸ hi.1, hbus.storesWf hi.2⟩

theorem Bus.raiseTimer_keeps (b : Bus) : b.Keeps b.raiseTimer := .of_stores rfl rfl rfl rfl

/-- A slice step is a step of the processor, from the state or from the state with the timer flag raised, and then the frame's
new count (60_exceptions.md R443, R447). -/
theorem State.sliceStep_cases {s t : State} {f : FrameState} {k : Nat} (h : s.sliceStep f k = .next t) :
    ∃ s1 u, (s1 = s ∨ s1 = s.withBus s.bus.raiseTimer) ∧ s1.cpuStep = .next u ∧
      t = { u with frame := some { f with left := k } } := by
  unfold State.sliceStep at h
  dsimp only at h
  split at h
  · next u hu => exact ⟨_, u, (ite_eq_or_eq _ _ _).symm, hu, (Host.Outcome.next.inj h).symm⟩
  · cases h
  · cases h

theorem State.sliceStep_keeps_inv {s t : State} {f : FrameState} {k : Nat} (hi : s.Inv) (h : s.sliceStep f k = .next t) :
    t.Inv := by
  obtain ⟨s1, u, hs1, hu, rfl⟩ := State.sliceStep_cases h
  have hi1 : s1.Inv := by
    obtain rfl | rfl := hs1
    · exact hi
    · exact hi.of_bus_keeps rfl s.bus.raiseTimer_keeps
  exact (State.cpuStep_keeps_inv hi1 hu).of_bus_keeps rfl (.refl _)

/-- The other agents and the start of the next scanline keep the invariant. -/
theorem State.endOfSlice_keeps_inv {s : State} (hi : s.Inv) (y : Nat) :
    ((s.withBus (s.bus.endLine y)).nextLine y).Inv :=
  hi.of_bus_keeps (State.nextLine_cpu _ y) ((s.bus.endLine_keeps y).trans (State.nextLine_keeps (s.withBus _) y))

theorem State.machineStep_keeps_inv {s t : State} (hi : s.Inv) (h : s.machineStep = .next t) : t.Inv := by
  unfold State.machineStep at h
  split at h
  · exact State.cpuStep_keeps_inv hi h
  · split at h
    · exact State.sliceStep_keeps_inv hi h
    · obtain rfl := Host.Outcome.next.inj h
      exact State.endOfSlice_keeps_inv hi _

theorem State.reset_cpu_inv : State.reset.cpu.Inv := ⟨fun _ => by decide, fun _ => by decide⟩

theorem State.reset_storesWf : State.reset.bus.StoresWf := ⟨rfl, rfl, rfl, rfl, rfl, rfl⟩

/-- Every channel of the reset state is the channel after reset (60_exceptions.md R445). -/
theorem State.reset_dma_get (c : BitVec 3) : State.reset.bus.dma.get c = Channel.reset := by
  obtain rfl | rfl | rfl | rfl | rfl | rfl | rfl | rfl := channel_cases c <;> rfl

end Sys2Proof.Machine

namespace Sys2Proof.Proofs
open Sys2Proof.Machine Sys2Proof.Claims

/-- Settles O10: a step is a processor step, a slice step or the end of a slice, and each keeps the invariant. -/
theorem stepKeepsInvariant : Obligations.StepKeepsInvariant := fun _ _ hi h => State.machineStep_keeps_inv hi h

/-- Settles O11, with the registers and the stores apart. -/
theorem resetMeetsInvariant : Obligations.ResetMeetsInvariant := ⟨State.reset_cpu_inv, State.reset_storesWf⟩

/-- Settles O22: each register is read off the literal, the channels by `State.reset_dma_get`. -/
theorem resetState : Obligations.ResetState := by
  have hdma : ∀ c, (State.reset.bus.dma.get c).terminated = true ∧ (State.reset.bus.dma.get c).doTransfer = false := by
    intro c
    rw [State.reset_dma_get]
    exact ⟨rfl, rfl⟩
  exact ⟨rfl, rfl, rfl, rfl, rfl, rfl, rfl, rfl, rfl, rfl, rfl, rfl, rfl, rfl, rfl, rfl, rfl, rfl, rfl, rfl, rfl, rfl, rfl, rfl,
    rfl, rfl, hdma⟩

end Sys2Proof.Proofs
end

section
/-! What an operation can change of the processor: one lemma for each register update and one for each operation the
instructions share (10_state.md R44, R45, R48 to R50). -/
namespace Sys2Proof.Machine

/-- A register of the processor by name, a flag of P for each bit (10_state.md R40, R46). -/
inductive Reg where
  | a
  | x
  | y
  | s
  | d
  | db
  | pb
  | pc
  | e
  | run
  | moves
  | flag (f : Flag)

/-- The register is the same in `c'` as in `c`. -/
def Reg.Kept (c c' : Cpu) : Reg → Prop
  | .a => c'.a = c.a
  | .x => c'.x = c.x
  | .y => c'.y = c.y
  | .s => c'.s = c.s
  | .d => c'.d = c.d
  | .db => c'.db = c.db
  | .pb => c'.pb = c.pb
  | .pc => c'.pc = c.pc
  | .e => c'.e = c.e
  | .run => c'.run = c.run
  | .moves => c'.moves = c.moves
  | .flag f => c'.flag f = c.flag f

/-- From `c` to `c'` no register outside the list changes. -/
def Cpu.Changes (c c' : Cpu) (W : List Reg) : Prop := ∀ r, r ∉ W → r.Kept c c'

/-- The flags a status write sets: all of P (10_state.md R49). -/
def allFlags : List Flag := [.n, .v, .m, .x, .d, .i, .z, .c]

/-! Each register update adds the registers it writes. -/
namespace Cpu.Changes
variable {c d e : Cpu} {W W' : List Reg}

theorem refl (c : Cpu) : c.Changes c [] := fun r _ => by cases r <;> rfl

theorem followed (h : c.Changes d W) (h' : d.Changes e W') : c.Changes e (W' ++ W) := by
  intro r hr
  have hd := h r fun m => hr (List.mem_append_right W' m)
  have he := h' r fun m => hr (List.mem_append_left W m)
  cases r <;> exact he.trans hd

theorem mono (h : c.Changes d W) (hW : W ⊆ W') : c.Changes d W' := fun r hr => h r fun m => hr (hW m)

theorem withP (h : c.Changes d W) {p : Byte} (F : List Flag) (hp : ∀ g, g ∉ F → flagOf p g = flagOf d.p g) :
    c.Changes { d with p := p } (F.map .flag ++ W) :=
  h.followed fun r hr => by
    cases r with
    | flag f => exact hp f fun m => hr (List.mem_map_of_mem m)
    | _ => rfl

theorem setFlag (h : c.Changes d W) (f : Flag) (b : Bool) : c.Changes (d.setFlag f b) (.flag f :: W) :=
  h.withP [f] fun g hg => by simp_all [eq_comm]

theorem setNZ (h : c.Changes d W) (w : Width) (v : Word) : c.Changes (d.setNZ w v) (.flag .n :: .flag .z :: W) :=
  h.withP [.n, .z] fun g hg => by simp_all

/-- An update that keeps every register but `q` writes `q`. -/
theorem write (h : c.Changes d W) (q : Reg) (hk : ∀ r, r ≠ q → r.Kept d e) : c.Changes e (q :: W) :=
  h.followed (W' := [q]) fun r hr => hk r fun hq => hr (hq ▸ List.mem_singleton_self q)

theorem withA (h : c.Changes d W) (v : Word) : c.Changes { d with a := v } (.a :: W) :=
  h.write .a fun r hr => by cases r <;> simp_all [Reg.Kept, Cpu.flag]

theorem withX (h : c.Changes d W) (v : Word) : c.Changes { d with x := v } (.x :: W) :=
  h.write .x fun r hr => by cases r <;> simp_all [Reg.Kept, Cpu.flag]

theorem withY (h : c.Changes d W) (v : Word) : c.Changes { d with y := v } (.y :: W) :=
  h.write .y fun r hr => by cases r <;> simp_all [Reg.Kept, Cpu.flag]

theorem withS (h : c.Changes d W) (v : Word) : c.Changes { d with s := v } (.s :: W) :=
  h.write .s fun r hr => by cases r <;> simp_all [Reg.Kept, Cpu.flag]

theorem withD (h : c.Changes d W) (v : Word) : c.Changes { d with d := v } (.d :: W) :=
  h.write .d fun r hr => by cases r <;> simp_all [Reg.Kept, Cpu.flag]

theorem withDb (h : c.Changes d W) (v : Byte) : c.Changes { d with db := v } (.db :: W) :=
  h.write .db fun r hr => by cases r <;> simp_all [Reg.Kept, Cpu.flag]

theorem withPb (h : c.Changes d W) (v : Byte) : c.Changes { d with pb := v } (.pb :: W) :=
  h.write .pb fun r hr => by cases r <;> simp_all [Reg.Kept, Cpu.flag]

theorem withPc (h : c.Changes d W) (v : Word) : c.Changes { d with pc := v } (.pc :: W) :=
  h.write .pc fun r hr => by cases r <;> simp_all [Reg.Kept, Cpu.flag]

theorem withE (h : c.Changes d W) (v : Bool) : c.Changes { d with e := v } (.e :: W) :=
  h.write .e fun r hr => by cases r <;> simp_all [Reg.Kept, Cpu.flag]

theorem withRun (h : c.Changes d W) (v : RunState) : c.Changes { d with run := v } (.run :: W) :=
  h.write .run fun r hr => by cases r <;> simp_all [Reg.Kept, Cpu.flag]

theorem setAcc (h : c.Changes d W) (v : Word) : c.Changes (d.setAcc v) (.a :: W) := h.withA _

theorem setX (h : c.Changes d W) (v : Word) : c.Changes (d.setX v) (.x :: W) := h.withX _

theorem setY (h : c.Changes d W) (v : Word) : c.Changes (d.setY v) (.y :: W) := h.withY _

theorem pushed (h : c.Changes d W) (nw : Bool) : c.Changes (d.pushed nw) (.s :: W) := by
  unfold Cpu.pushed
  split <;> exact h.withS _

theorem pulled (h : c.Changes d W) (nw : Bool) : c.Changes (d.pulled nw) (.s :: W) := by
  unfold Cpu.pulled
  split <;> exact h.withS _

theorem clearXY (h : c.Changes d W) : c.Changes d.clearXY (.x :: .y :: W) :=
  h.followed (W' := [.x, .y]) fun r hr => by cases r <;> simp_all [Reg.Kept, Cpu.flag]

/-- `SetP` writes every flag, and X and Y when P.X comes out 1 (10_state.md R49). -/
theorem setP (h : c.Changes d W) (v : Byte) : c.Changes (d.setP v) (.x :: .y :: (allFlags.map .flag ++ W)) := by
  have hp (p : Byte) : c.Changes { d with p := p } (allFlags.map .flag ++ W) :=
    h.withP allFlags fun g hg => by cases g <;> simp [allFlags] at hg
  unfold Cpu.setP
  dsimp only
  generalize (if d.e then withFlag (withFlag v .m true) .x true else v) = p
  split
  · exact (hp _).clearXY
  · exact (hp _).mono fun r hr => List.mem_cons_of_mem _ (List.mem_cons_of_mem _ hr)

theorem forceEmulation (h : c.Changes d W) : c.Changes d.forceEmulation (.s :: .flag .m :: .flag .x :: .x :: .y :: W) :=
  h.clearXY.followed (W' := [.s, .flag .m, .flag .x]) fun r hr => by cases r <;> simp_all [Reg.Kept, Cpu.flag, eq_comm]

/-- XCE exchanges C with E, and into emulation mode forces what R43 asks (47_status_system.md R339). -/
theorem xce (h : c.Changes d W) : c.Changes d.xce (.s :: .flag .m :: .flag .x :: .x :: .y :: .e :: .flag .c :: W) := by
  have he := (h.setFlag .c d.e).withE (d.flag .c)
  unfold Cpu.xce
  dsimp only
  split
  · exact he.forceEmulation
  · exact he.mono (List.subset_append_right ([.s, .flag .m, .flag .x, .x, .y] : List Reg) _)

/-- The add core writes A, C, V, N and Z (43_arithmetic.md R242, R243). -/
theorem addWith (h : c.Changes d W) (b : Word) (sub : Bool) :
    c.Changes (d.addWith b sub) (.flag .n :: .flag .v :: .flag .z :: .flag .c :: .a :: W) :=
  (h.setAcc _).withP [.n, .v, .z, .c] fun g hg => by simp_all [addFlags, eq_comm]

/-! The same for the operations of a state that write a register. -/
variable {t u : State}

/-- Reads leave every register. -/
theorem reads (h : c.Changes t.cpu W) (hr : t.Reads u) : c.Changes u.cpu W := hr.cpu ▸ h

theorem jump (h : c.Changes t.cpu W) (v : Word) : c.Changes (t.jump v).cpu (.pc :: W) := h.withPc v

theorem jumpLong (h : c.Changes t.cpu W) (a : Addr) : c.Changes (t.jumpLong a).cpu (.pb :: .pc :: W) :=
  (h.withPc (offOf a)).withPb (bankOf a)

theorem fetch8 (h : c.Changes t.cpu W) : c.Changes t.fetch8.st.cpu (.pc :: W) := h.withPc _

theorem push8 (h : c.Changes t.cpu W) (nw : Bool) (v : Byte) : c.Changes (t.push8 nw v).cpu (.s :: W) := h.pushed nw

theorem push16 (h : c.Changes t.cpu W) (nw : Bool) (v : Word) : c.Changes (t.push16 nw v).cpu (.s :: W) :=
  ((h.push8 nw (hiByte v)).push8 nw (loByte v)).mono (by simp)

theorem pull8 (h : c.Changes t.cpu W) (nw : Bool) : c.Changes (t.pull8 nw).st.cpu (.s :: W) := h.pulled nw

theorem pull16 (h : c.Changes t.cpu W) (nw : Bool) : c.Changes (t.pull16 nw).st.cpu (.s :: W) :=
  ((h.pull8 nw).pull8 nw).mono (by simp)

theorem pull24 (h : c.Changes t.cpu W) (nw : Bool) : c.Changes (t.pull24 nw).st.cpu (.s :: W) :=
  ((h.pull16 nw).pull8 nw).mono (by simp)

/-- The end of a `NoWrapOp` writes S at most (40_addressing.md R196). -/
theorem endNoWrap (h : c.Changes t.cpu W) : c.Changes t.endNoWrap.cpu (.s :: W) := by
  unfold State.endNoWrap
  split
  · exact h.withS _
  · exact h.mono (List.subset_cons_self _ _)

end Cpu.Changes

/-- A read-modify-write function writes no flag outside the list. -/
def WritesFlags (F : List Flag) (f : Byte → Word → Modified) : Prop :=
  ∀ p v g, g ∉ F → flagOf (f p v).p g = flagOf p g

theorem flagOf_setNZ_kept (w : Width) (v : Word) (p : Byte) {g : Flag} (hg : g ∉ [.n, .z]) :
    flagOf (setNZ w v p) g = flagOf p g := by
  simp_all

theorem flagOf_setNZ_withC_kept (w : Width) (v : Word) (p : Byte) (b : Bool) {g : Flag} (hg : g ∉ [.n, .z, .c]) :
    flagOf (setNZ w v (withFlag p .c b)) g = flagOf p g := by
  simp_all [eq_comm]

theorem incValue_writesFlags (w : Width) : WritesFlags [.n, .z] (incValue w) := fun _ _ _ => flagOf_setNZ_kept _ _ _
theorem decValue_writesFlags (w : Width) : WritesFlags [.n, .z] (decValue w) := fun _ _ _ => flagOf_setNZ_kept _ _ _
theorem aslValue_writesFlags (w : Width) : WritesFlags [.n, .z, .c] (aslValue w) :=
  fun _ _ _ => flagOf_setNZ_withC_kept _ _ _ _
theorem lsrValue_writesFlags (w : Width) : WritesFlags [.n, .z, .c] (lsrValue w) :=
  fun _ _ _ => flagOf_setNZ_withC_kept _ _ _ _
theorem rolValue_writesFlags (w : Width) : WritesFlags [.n, .z, .c] (rolValue w) :=
  fun _ _ _ => flagOf_setNZ_withC_kept _ _ _ _
theorem rorValue_writesFlags (w : Width) : WritesFlags [.n, .z, .c] (rorValue w) :=
  fun _ _ _ => flagOf_setNZ_withC_kept _ _ _ _
theorem tsbValue_writesFlags (a : Word) : WritesFlags [.z] (tsbValue a) := fun p v g hg => by simp_all [tsbValue, eq_comm]
theorem trbValue_writesFlags (a : Word) : WritesFlags [.z] (trbValue a) := fun p v g hg => by simp_all [trbValue, eq_comm]

/-! What each shared operation writes. -/
namespace State
open Cpu (Changes)

theorem lda_changes (s : State) (mode : Mode) : s.cpu.Changes (s.lda mode).cpu [.flag .n, .flag .z, .a] :=
  (((Changes.refl s.cpu).reads (s.operand_reads _ mode)).setAcc _).setNZ _ _

theorem ldx_changes (s : State) (mode : Mode) : s.cpu.Changes (s.ldx mode).cpu [.flag .n, .flag .z, .x] :=
  (((Changes.refl s.cpu).reads (s.operand_reads _ mode)).setX _).setNZ _ _

theorem ldy_changes (s : State) (mode : Mode) : s.cpu.Changes (s.ldy mode).cpu [.flag .n, .flag .z, .y] :=
  (((Changes.refl s.cpu).reads (s.operand_reads _ mode)).setY _).setNZ _ _

theorem storeTo_changes (s : State) (w : Width) (mode : MemMode) (v : Word) : s.cpu.Changes (s.storeTo w mode v).cpu [] := by
  rw [State.storeTo_cpu]
  exact .refl _

theorem adc_changes (s : State) (mode : Mode) :
    s.cpu.Changes (s.adc mode).cpu [.flag .n, .flag .v, .flag .z, .flag .c, .a] :=
  ((Changes.refl s.cpu).reads (s.operand_reads _ mode)).addWith _ _

theorem sbc_changes (s : State) (mode : Mode) :
    s.cpu.Changes (s.sbc mode).cpu [.flag .n, .flag .v, .flag .z, .flag .c, .a] :=
  ((Changes.refl s.cpu).reads (s.operand_reads _ mode)).addWith _ _

theorem compare_changes (s : State) (w : Width) (reg : Word) (mode : Mode) :
    s.cpu.Changes (s.compare w reg mode).cpu [.flag .n, .flag .z, .flag .c] :=
  ((Changes.refl s.cpu).reads (s.operand_reads _ mode)).withP [.n, .z, .c] fun _ => flagOf_setNZ_withC_kept _ _ _ _

theorem logic_changes (s : State) (op : Word → Word → Word) (mode : Mode) :
    s.cpu.Changes (s.logic op mode).cpu [.flag .n, .flag .z, .a] :=
  (((Changes.refl s.cpu).reads (s.operand_reads _ mode)).setAcc _).setNZ _ _

theorem bit_changes (s : State) (mode : MemMode) : s.cpu.Changes (s.bit mode).cpu [.flag .n, .flag .v, .flag .z] :=
  ((Changes.refl s.cpu).reads (s.operand_reads _ _)).withP [.n, .v, .z] fun g hg => by simp_all [bitFlags, eq_comm]

/-- BIT of an immediate writes Z alone (44_logic_shift.md R263). -/
theorem bitImm_changes (s : State) (v : Word) : s.cpu.Changes (s.bitImm v).cpu [.flag .z] :=
  ((Changes.refl s.cpu).reads (s.operand_reads _ (.imm v))).withP [.z] fun g hg => by simp_all [bitImmFlags, eq_comm]

theorem modifyAt_changes (s : State) (w : Width) (mode : MemMode) {F : List Flag} {f : Byte → Word → Modified}
    (hf : WritesFlags F f) : s.cpu.Changes (s.modifyAt w mode f).cpu (F.map .flag ++ []) := by
  rw [State.modifyAt_cpu]
  exact (Changes.refl s.cpu).withP F (hf _ _)

theorem modifyAcc_changes (s : State) {F : List Flag} {f : Byte → Word → Modified} (hf : WritesFlags F f) :
    s.cpu.Changes (s.modifyAcc f).cpu (F.map .flag ++ [.a]) :=
  ((Changes.refl s.cpu).setAcc _).withP F (hf _ _)

theorem branch_changes (s : State) (taken : Bool) (rel : Byte) : s.cpu.Changes (s.branch taken rel).cpu [.pc] := by
  unfold State.branch
  split
  · exact (Changes.refl s.cpu).jump _
  · exact (Changes.refl s.cpu).mono (List.nil_subset _)

theorem jumpThrough_changes (s : State) (l : Loc) : s.cpu.Changes (s.jumpThrough l).cpu [.pc] :=
  ((Changes.refl s.cpu).reads (s.load16_reads l)).jump _

theorem jumpLongThrough_changes (s : State) (l : Loc) : s.cpu.Changes (s.jumpLongThrough l).cpu [.pb, .pc] :=
  ((Changes.refl s.cpu).reads (s.load24_reads l)).jumpLong _

theorem callNear_changes (s : State) (a : Word) : s.cpu.Changes (s.callNear a).cpu [.pc, .s] :=
  ((Changes.refl s.cpu).push16 false (s.cpu.pc - 1)).jump a

theorem callIndexed_changes (s : State) (lo : Byte) : s.cpu.Changes (s.callIndexed lo).cpu [.s, .pc, .pc, .s] :=
  ((((Changes.refl s.cpu).push16 s.noWrap s.cpu.pc).fetch8.reads (State.load16_reads _ _)).jump _).endNoWrap

theorem callLong_changes (s : State) (off : Word) : s.cpu.Changes (s.callLong off).cpu [.s, .pb, .pc, .s, .pc, .s] :=
  ((((Changes.refl s.cpu).push8 s.noWrap s.cpu.pb).fetch8.push16 _ _).jumpLong _).endNoWrap

theorem returnNear_changes (s : State) : s.cpu.Changes s.returnNear.cpu [.pc, .s] :=
  ((Changes.refl s.cpu).pull16 false).jump _

theorem returnLong_changes (s : State) : s.cpu.Changes s.returnLong.cpu [.s, .pb, .pc, .s] :=
  (((Changes.refl s.cpu).pull24 s.noWrap).jumpLong _).endNoWrap

theorem pushWidth_changes (s : State) (w : Width) (v : Word) : s.cpu.Changes (s.pushWidth w v).cpu [.s] := by
  cases w with
  | b8 => exact (Changes.refl s.cpu).push8 _ _
  | b16 => exact (Changes.refl s.cpu).push16 _ _

theorem pushNew_changes (s : State) (v : Word) : s.cpu.Changes (s.pushNew v).cpu [.s, .s] :=
  ((Changes.refl s.cpu).push16 _ _).endNoWrap

theorem pushIndirect_changes (s : State) (dp : Byte) : s.cpu.Changes (s.pushIndirect dp).cpu [.s, .s] :=
  (((Changes.refl s.cpu).reads (s.load16_reads (.dirN (zext dp)))).push16 _ _).endNoWrap

theorem pullWidth_changes (s : State) (w : Width) : s.cpu.Changes (s.pullWidth w).st.cpu [.s] := by
  cases w with
  | b8 => exact (Changes.refl s.cpu).pull8 _
  | b16 => exact (Changes.refl s.cpu).pull16 _

theorem pullAcc_changes (s : State) : s.cpu.Changes s.pullAcc.cpu [.flag .n, .flag .z, .a, .s] :=
  ((s.pullWidth_changes _).setAcc _).setNZ _ _

theorem pullX_changes (s : State) : s.cpu.Changes s.pullX.cpu [.flag .n, .flag .z, .x, .s] :=
  ((s.pullWidth_changes _).setX _).setNZ _ _

theorem pullY_changes (s : State) : s.cpu.Changes s.pullY.cpu [.flag .n, .flag .z, .y, .s] :=
  ((s.pullWidth_changes _).setY _).setNZ _ _

theorem pullP_changes (s : State) : s.cpu.Changes s.pullP.cpu (.x :: .y :: (allFlags.map .flag ++ [.s])) :=
  ((Changes.refl s.cpu).pull8 false).setP _

theorem pullBank_changes (s : State) : s.cpu.Changes s.pullBank.cpu [.flag .n, .flag .z, .db, .s] :=
  (((Changes.refl s.cpu).pull8 false).withDb _).setNZ _ _

theorem pullDirect_changes (s : State) : s.cpu.Changes s.pullDirect.cpu [.s, .flag .n, .flag .z, .d, .s] :=
  Changes.endNoWrap (t := (s.pull16 s.noWrap).st.withCpu _) ((((Changes.refl s.cpu).pull16 s.noWrap).withD _).setNZ .b16 _)

theorem pushFrame_changes (k : IntKind) (s : State) : s.cpu.Changes (s.pushFrame k).cpu [.s] := by
  unfold State.pushFrame
  dsimp only
  split
  · exact (((Changes.refl s.cpu).push16 false _).push8 false _).mono (by simp)
  · exact ((((Changes.refl s.cpu).push8 false _).push16 false _).push8 false _).mono (by simp)

/-- An interrupt entry writes S, I, D, PB and PC (60_exceptions.md R402). -/
theorem interrupt_changes (k : IntKind) (s : State) :
    s.cpu.Changes (s.interrupt k).cpu [.pc, .pb, .flag .d, .flag .i, .s] :=
  ((((s.pushFrame_changes k).setFlag .i true).setFlag .d false).withPb 0).withPc _

/-- RTI pulls P, PC and in native mode PB (47_status_system.md R344). -/
theorem returnFromInterrupt_changes (s : State) :
    s.cpu.Changes s.returnFromInterrupt.cpu (.pb :: .s :: .pc :: .s :: .x :: .y :: (allFlags.map .flag ++ [.s])) := by
  have h := (s.pullP_changes.pull16 false).jump (s.pullP.pull16 false).v
  unfold State.returnFromInterrupt
  dsimp only
  split
  · exact h.mono (List.subset_append_right ([.pb, .s] : List Reg) _)
  · exact (h.pull8 false).withPb _

theorem blockMove_changes (next : Width → Word → Word) (dbk sbk : Byte) (s : State) :
    s.cpu.Changes (s.blockMove next dbk sbk).cpu [.a, .x, .y, .db, .pc, .moves] := by
  intro r hr
  cases r <;> simp_all [Reg.Kept, Cpu.flag, State.blockMove]

end State
end Sys2Proof.Machine
end

section
/-! Which registers and flags an instruction may write, as the lists of the statements name them, and that `exec` writes no
other. -/
namespace Sys2Proof.Machine
open Sys2Proof.Claims
open Cpu (Changes)

/-- The mnemonics whose instructions may write a register, in the lists of the statements. The instructions that write P whole
may clear the high bytes of X and Y, and XCE those and set that of S (10_state.md R42, R43, R49). -/
def Reg.writers : Reg → List String
  | .a => aWriters
  | .x => "XCE" :: statusWriters ++ xWriters
  | .y => "XCE" :: statusWriters ++ yWriters
  | .s => "XCE" :: sWriters
  | .d => dWriters
  | .db => dbWriters
  | .pb => pbWriters
  | .pc => pcWriters
  | .e => ["XCE"]
  | .run => ["WAI", "STP"]
  | .moves => ["MVN", "MVP"]
  | .flag .n => "BIT" :: statusWriters ++ nzWriters
  | .flag .v => ["ADC", "SBC", "BIT", "CLV"] ++ statusWriters
  | .flag .m => "XCE" :: statusWriters
  | .flag .x => "XCE" :: statusWriters
  | .flag .d => ["CLD", "SED", "BRK", "COP"] ++ statusWriters
  | .flag .i => ["CLI", "SEI", "BRK", "COP"] ++ statusWriters
  | .flag .z => ["BIT", "TSB", "TRB"] ++ statusWriters ++ nzWriters
  | .flag .c => cWriters ++ statusWriters

/-- An instruction may write a register: its mnemonic is listed, or it is a read-modify-write of the accumulator. -/
def mayWrite (i : Instr) (r : Reg) : Bool :=
  r.writers.contains i.mnemonic || (match r with | .a => (accForm i).isSome | _ => false)

/-- TXS and TCS write S, in emulation mode its low byte (42_transfer.md R227, R228). -/
theorem Cpu.txsLike_changes (c : Cpu) (v : Word) :
    c.Changes (if c.e then c.setSL (loByte v) else { c with s := v }) [.s] := by
  split <;> exact (Changes.refl c).withS _

/-- What an arm of `exec` leaves, the state it answers leaves, if the arm's registers are among the instruction's own. -/
theorem kept_of_next {i : Instr} {s t u : State} {W : List Reg} (h : (.next u : Out) = .next t)
    (hu : s.cpu.Changes u.cpu W) (hW : W.all (mayWrite i) = true) (r : Reg) (hr : mayWrite i r = false) :
    r.Kept s.cpu t.cpu := by
  obtain rfl := Host.Outcome.next.inj h
  refine hu r fun hm => ?_
  rw [List.all_eq_true.mp hW r hm] at hr
  cases hr

/-- An instruction leaves every register and flag that it may not write. -/
theorem exec_kept {i : Instr} {s t : State} (h : exec i s = .next t) (r : Reg) (hr : mayWrite i r = false) :
    r.Kept s.cpu t.cpu := by
  cases i with
  | ldaDpXInd _ | ldaSr _ | ldaDp _ | ldaDpIndLong _ | ldaImm _ | ldaAbs _ | ldaLong _ | ldaDpIndY _ | ldaDpInd _
  | ldaSrIndY _ | ldaDpX _ | ldaDpIndLongY _ | ldaAbsY _ | ldaAbsX _ | ldaLongX _ =>
    exact kept_of_next h (s.lda_changes _) rfl r hr
  | ldxImm _ | ldxDp _ | ldxAbs _ | ldxDpY _ | ldxAbsY _ => exact kept_of_next h (s.ldx_changes _) rfl r hr
  | ldyImm _ | ldyDp _ | ldyAbs _ | ldyDpX _ | ldyAbsX _ => exact kept_of_next h (s.ldy_changes _) rfl r hr
  | stzDp _ | stzDpX _ | stzAbs _ | stzAbsX _ | staDpXInd _ | staSr _ | staDp _ | staDpIndLong _ | staAbs _
  | staLong _ | staDpIndY _ | staDpInd _ | staSrIndY _ | staDpX _ | staDpIndLongY _ | staAbsY _ | staAbsX _
  | staLongX _ | styDp _ | styAbs _ | styDpX _ | stxDp _ | stxAbs _ | stxDpY _ =>
    exact kept_of_next h (s.storeTo_changes _ _ _) rfl r hr
  | adcDpXInd _ | adcSr _ | adcDp _ | adcDpIndLong _ | adcImm _ | adcAbs _ | adcLong _ | adcDpIndY _ | adcDpInd _
  | adcSrIndY _ | adcDpX _ | adcDpIndLongY _ | adcAbsY _ | adcAbsX _ | adcLongX _ =>
    exact kept_of_next h (s.adc_changes _) rfl r hr
  | sbcDpXInd _ | sbcSr _ | sbcDp _ | sbcDpIndLong _ | sbcImm _ | sbcAbs _ | sbcLong _ | sbcDpIndY _ | sbcDpInd _
  | sbcSrIndY _ | sbcDpX _ | sbcDpIndLongY _ | sbcAbsY _ | sbcAbsX _ | sbcLongX _ =>
    exact kept_of_next h (s.sbc_changes _) rfl r hr
  | cpyImm _ | cpyDp _ | cpyAbs _ | cmpDpXInd _ | cmpSr _ | cmpDp _ | cmpDpIndLong _ | cmpImm _ | cmpAbs _ | cmpLong _
  | cmpDpIndY _ | cmpDpInd _ | cmpSrIndY _ | cmpDpX _ | cmpDpIndLongY _ | cmpAbsY _ | cmpAbsX _ | cmpLongX _
  | cpxImm _ | cpxDp _ | cpxAbs _ => exact kept_of_next h (s.compare_changes _ _ _) rfl r hr
  | oraDpXInd _ | oraSr _ | oraDp _ | oraDpIndLong _ | oraImm _ | oraAbs _ | oraLong _ | oraDpIndY _ | oraDpInd _
  | oraSrIndY _ | oraDpX _ | oraDpIndLongY _ | oraAbsY _ | oraAbsX _ | oraLongX _ | andDpXInd _ | andSr _ | andDp _
  | andDpIndLong _ | andImm _ | andAbs _ | andLong _ | andDpIndY _ | andDpInd _ | andSrIndY _ | andDpX _
  | andDpIndLongY _ | andAbsY _ | andAbsX _ | andLongX _ | eorDpXInd _ | eorSr _ | eorDp _ | eorDpIndLong _ | eorImm _
  | eorAbs _ | eorLong _ | eorDpIndY _ | eorDpInd _ | eorSrIndY _ | eorDpX _ | eorDpIndLongY _ | eorAbsY _ | eorAbsX _
  | eorLongX _ => exact kept_of_next h (s.logic_changes _ _) rfl r hr
  | bitDp _ | bitAbs _ | bitDpX _ | bitAbsX _ => exact kept_of_next h (s.bit_changes _) rfl r hr
  | bitImm _ => exact kept_of_next h (s.bitImm_changes _) rfl r hr
  | incDp _ | incAbs _ | incDpX _ | incAbsX _ => exact kept_of_next h (s.modifyAt_changes _ _ (incValue_writesFlags _)) rfl r hr
  | incAcc => exact kept_of_next h (s.modifyAcc_changes (incValue_writesFlags _)) rfl r hr
  | decDp _ | decAbs _ | decDpX _ | decAbsX _ => exact kept_of_next h (s.modifyAt_changes _ _ (decValue_writesFlags _)) rfl r hr
  | decAcc => exact kept_of_next h (s.modifyAcc_changes (decValue_writesFlags _)) rfl r hr
  | aslDp _ | aslAbs _ | aslDpX _ | aslAbsX _ => exact kept_of_next h (s.modifyAt_changes _ _ (aslValue_writesFlags _)) rfl r hr
  | aslAcc => exact kept_of_next h (s.modifyAcc_changes (aslValue_writesFlags _)) rfl r hr
  | lsrDp _ | lsrAbs _ | lsrDpX _ | lsrAbsX _ => exact kept_of_next h (s.modifyAt_changes _ _ (lsrValue_writesFlags _)) rfl r hr
  | lsrAcc => exact kept_of_next h (s.modifyAcc_changes (lsrValue_writesFlags _)) rfl r hr
  | rolDp _ | rolAbs _ | rolDpX _ | rolAbsX _ => exact kept_of_next h (s.modifyAt_changes _ _ (rolValue_writesFlags _)) rfl r hr
  | rolAcc => exact kept_of_next h (s.modifyAcc_changes (rolValue_writesFlags _)) rfl r hr
  | rorDp _ | rorAbs _ | rorDpX _ | rorAbsX _ => exact kept_of_next h (s.modifyAt_changes _ _ (rorValue_writesFlags _)) rfl r hr
  | rorAcc => exact kept_of_next h (s.modifyAcc_changes (rorValue_writesFlags _)) rfl r hr
  | tsbDp _ | tsbAbs _ => exact kept_of_next h (s.modifyAt_changes _ _ (tsbValue_writesFlags _)) rfl r hr
  | trbDp _ | trbAbs _ => exact kept_of_next h (s.modifyAt_changes _ _ (trbValue_writesFlags _)) rfl r hr
  | bpl _ | bmi _ | bvc _ | bvs _ | bra _ | bcc _ | bcs _ | bne _ | beq _ =>
    exact kept_of_next h (s.branch_changes _ _) rfl r hr
  | jmpAbs _ => exact kept_of_next h ((Changes.refl s.cpu).jump _) rfl r hr
  | jmlLong _ => exact kept_of_next h ((Changes.refl s.cpu).jumpLong _) rfl r hr
  | jmpAbsInd _ | jmpAbsXInd _ => exact kept_of_next h (s.jumpThrough_changes _) rfl r hr
  | jmlAbsIndLong _ => exact kept_of_next h (s.jumpLongThrough_changes _) rfl r hr
  | jsrAbs _ => exact kept_of_next h (s.callNear_changes _) rfl r hr
  | jsrAbsXInd _ => exact kept_of_next h (s.callIndexed_changes _) rfl r hr
  | jsl _ => exact kept_of_next h (s.callLong_changes _) rfl r hr
  | rts => exact kept_of_next h s.returnNear_changes rfl r hr
  | rtl => exact kept_of_next h s.returnLong_changes rfl r hr
  | php | phk | phb => exact kept_of_next h ((Changes.refl s.cpu).push8 _ _) rfl r hr
  | pha | phy | phx => exact kept_of_next h (s.pushWidth_changes _ _) rfl r hr
  | phd | per _ | pea _ => exact kept_of_next h (s.pushNew_changes _) rfl r hr
  | pei _ => exact kept_of_next h (s.pushIndirect_changes _) rfl r hr
  | pla => exact kept_of_next h s.pullAcc_changes rfl r hr
  | plx => exact kept_of_next h s.pullX_changes rfl r hr
  | ply => exact kept_of_next h s.pullY_changes rfl r hr
  | plp => exact kept_of_next h s.pullP_changes rfl r hr
  | plb => exact kept_of_next h s.pullBank_changes rfl r hr
  | pld => exact kept_of_next h s.pullDirect_changes rfl r hr
  | brk _ | cop _ => exact kept_of_next h (s.interrupt_changes _) rfl r hr
  | rti => exact kept_of_next h s.returnFromInterrupt_changes rfl r hr
  | mvp _ _ | mvn _ _ => exact kept_of_next h (s.blockMove_changes _ _ _) rfl r hr
  | tax | tsx | tyx | dex | inx => exact kept_of_next h (((Changes.refl s.cpu).setX _).setNZ _ _) rfl r hr
  | dey | txy | tay | iny => exact kept_of_next h (((Changes.refl s.cpu).setY _).setNZ _ _) rfl r hr
  | txa | tya => exact kept_of_next h (((Changes.refl s.cpu).setAcc _).setNZ _ _) rfl r hr
  | tsc | tdc | xba => exact kept_of_next h (((Changes.refl s.cpu).withA _).setNZ _ _) rfl r hr
  | tcd => exact kept_of_next h (((Changes.refl s.cpu).withD _).setNZ _ _) rfl r hr
  | tcs | txs => exact kept_of_next h (s.cpu.txsLike_changes _) rfl r hr
  | clc | sec | cli | sei | clv | cld | sed => exact kept_of_next h ((Changes.refl s.cpu).setFlag _ _) rfl r hr
  | rep _ | sep _ => exact kept_of_next h ((Changes.refl s.cpu).setP _) rfl r hr
  | xce => exact kept_of_next h (Changes.refl s.cpu).xce rfl r hr
  | wdm _ | nop => exact kept_of_next h (Changes.refl s.cpu) rfl r hr
  | brl _ => exact kept_of_next h ((Changes.refl s.cpu).withPc _) rfl r hr
  | wai | stp => exact kept_of_next h ((Changes.refl s.cpu).withRun _) rfl r hr

end Sys2Proof.Machine
end

section
/-! The frames of the registers and of the flags (10_state.md R42 to R50). -/
namespace Sys2Proof.Machine
open Sys2Proof.Claims

/-- An instruction whose mnemonic a register other than A does not list leaves it. -/
theorem exec_kept_of_notMem {i : Instr} {s t : State} (h : exec i s = .next t) (r : Reg) (hr : r ≠ .a)
    (hm : i.mnemonic ∉ r.writers) : r.Kept s.cpu t.cpu := by
  refine exec_kept h r ?_
  cases r with
  | a => exact absurd rfl hr
  | _ => simpa [mayWrite] using hm

/-- An index register is kept, or its high byte is cleared under P.X = 1 (10_state.md R42). -/
def HighCleared (p : Byte) (old new : Word) : Prop :=
  loByte new = loByte old ∧ (new = old ∨ hiByte new = 0 ∧ flagOf p .x = true)

theorem HighCleared.refl (p : Byte) (v : Word) : HighCleared p v v := ⟨rfl, .inl rfl⟩

theorem HighCleared.clear {p : Byte} (hx : flagOf p .x = true) (v : Word) : HighCleared p v (zext (loByte v)) :=
  ⟨loByte_zext _, .inr ⟨hiByte_zext _, hx⟩⟩

theorem Cpu.setP_highCleared (c : Cpu) (v : Byte) :
    HighCleared (c.setP v).p c.x (c.setP v).x ∧ HighCleared (c.setP v).p c.y (c.setP v).y := by
  unfold Cpu.setP
  dsimp only
  generalize (if c.e then withFlag (withFlag v .m true) .x true else v) = p
  split
  · next hx => exact ⟨.clear hx _, .clear hx _⟩
  · exact ⟨.refl _ _, .refl _ _⟩

theorem Cpu.xce_highCleared (c : Cpu) : HighCleared c.xce.p c.x c.xce.x ∧ HighCleared c.xce.p c.y c.xce.y := by
  unfold Cpu.xce
  dsimp only
  split
  · exact ⟨.clear (by simp) _, .clear (by simp) _⟩
  · exact ⟨.refl _ _, .refl _ _⟩

/-- XCE keeps S, or into emulation mode sets its high byte (47_status_system.md R339). -/
theorem Cpu.xce_s (c : Cpu) :
    loByte c.xce.s = loByte c.s ∧ (c.xce.s = c.s ∨ hiByte c.xce.s = 0x01 ∧ c.xce.e = true) := by
  unfold Cpu.xce
  dsimp only
  split
  · next he => exact ⟨by simp, .inr ⟨by simp, he⟩⟩
  · exact ⟨rfl, .inl rfl⟩

/-- RTI leaves X, Y and P as its `SetP` does: the pulls after it move S, PC and PB only. -/
theorem State.returnFromInterrupt_index (s : State) :
    s.returnFromInterrupt.cpu.x = ((s.cpu.pulled false).setP (s.pull8 false).v).x ∧
    s.returnFromInterrupt.cpu.y = ((s.cpu.pulled false).setP (s.pull8 false).v).y ∧
    s.returnFromInterrupt.cpu.p = ((s.cpu.pulled false).setP (s.pull8 false).v).p := by
  unfold State.returnFromInterrupt
  dsimp only
  split <;> simp

/-- The instructions that write P whole, and XCE, by their mnemonics (10_state.md R49). -/
theorem statusWriter_cases {i : Instr} (hi : i.mnemonic ∈ "XCE" :: statusWriters) :
    i = .xce ∨ i = .plp ∨ i = .rti ∨ (∃ b, i = .rep b) ∨ ∃ b, i = .sep b := by
  have hc : ("XCE" :: statusWriters).contains i.mnemonic = true := List.contains_iff_mem.mpr hi
  cases i with
  | xce => exact .inl rfl
  | plp => exact .inr (.inl rfl)
  | rti => exact .inr (.inr (.inl rfl))
  | rep b => exact .inr (.inr (.inr (.inl ⟨b, rfl⟩)))
  | sep b => exact .inr (.inr (.inr (.inr ⟨b, rfl⟩)))
  | _ => exact absurd hc Bool.false_ne_true

theorem eq_xce_of_mnemonic {i : Instr} (hi : i.mnemonic = "XCE") : i = .xce := by
  obtain rfl | rfl | rfl | ⟨b, rfl⟩ | ⟨b, rfl⟩ := statusWriter_cases (by rw [hi]; exact List.mem_cons_self)
  · rfl
  · exact absurd hi (show "PLP" ≠ "XCE" by decide)
  · exact absurd hi (show "RTI" ≠ "XCE" by decide)
  · exact absurd hi (show "REP" ≠ "XCE" by decide)
  · exact absurd hi (show "SEP" ≠ "XCE" by decide)

/-- The instructions that write P whole, and XCE, clear the high bytes of X and Y at most. -/
theorem exec_highCleared {i : Instr} {s t : State} (h : exec i s = .next t) (hi : i.mnemonic ∈ "XCE" :: statusWriters) :
    HighCleared t.cpu.p s.cpu.x t.cpu.x ∧ HighCleared t.cpu.p s.cpu.y t.cpu.y := by
  have hpull := (s.cpu.pulled false).setP_highCleared (s.pull8 false).v
  simp only [Cpu.pulled_x, Cpu.pulled_y] at hpull
  obtain rfl | rfl | rfl | ⟨b, rfl⟩ | ⟨b, rfl⟩ := statusWriter_cases hi <;> obtain rfl := Host.Outcome.next.inj h
  · exact s.cpu.xce_highCleared
  · exact hpull
  · obtain ⟨hx, hy, hp⟩ := s.returnFromInterrupt_index
    rw [hx, hy, hp]
    exact hpull
  · exact s.cpu.setP_highCleared _
  · exact s.cpu.setP_highCleared _

end Sys2Proof.Machine

namespace Sys2Proof.Proofs
open Sys2Proof.Machine Sys2Proof.Claims

/-- Settles O23: `exec_kept` for each register, and for X, Y and S what the instructions that write P whole and XCE do. -/
theorem registerWriters : Obligations.RegisterWriters := by
  intro i s t h
  have keeps := (exec_sound h).keeps
  refine ⟨fun hm ha => exec_kept h .a (by simp [mayWrite, Reg.writers, hm, ha]), fun hm => ?x, fun hm => ?y, fun hm => ?s,
    exec_kept_of_notMem h .d nofun, exec_kept_of_notMem h .db nofun, exec_kept_of_notMem h .pb nofun,
    exec_kept_of_notMem h .pc nofun,
    fun hm => exec_kept_of_notMem h .e nofun (by simpa [Reg.writers] using hm),
    fun hw hs => exec_kept_of_notMem h .run nofun (by simp [Reg.writers, hw, hs]),
    fun hn hp => exec_kept_of_notMem h .moves nofun (by simp [Reg.writers, hn, hp]),
    keeps.frame, keeps.resetRequest⟩
  case x =>
    by_cases hi : i.mnemonic ∈ "XCE" :: statusWriters
    · obtain ⟨⟨hlo, hx⟩, _⟩ := exec_highCleared h hi
      exact ⟨hlo, hx.imp_right fun ⟨hhi, hf⟩ => ⟨hhi, hf, hi⟩⟩
    · have hk : t.cpu.x = s.cpu.x := exec_kept_of_notMem h .x nofun (by simpa [Reg.writers, hm] using hi)
      exact ⟨congrArg loByte hk, .inl hk⟩
  case y =>
    by_cases hi : i.mnemonic ∈ "XCE" :: statusWriters
    · obtain ⟨_, hlo, hy⟩ := exec_highCleared h hi
      exact ⟨hlo, hy.imp_right fun ⟨hhi, hf⟩ => ⟨hhi, hf, hi⟩⟩
    · have hk : t.cpu.y = s.cpu.y := exec_kept_of_notMem h .y nofun (by simpa [Reg.writers, hm] using hi)
      exact ⟨congrArg loByte hk, .inl hk⟩
  case s =>
    by_cases hi : i.mnemonic = "XCE"
    · obtain rfl := eq_xce_of_mnemonic hi
      obtain rfl := Host.Outcome.next.inj h
      obtain ⟨hlo, hs⟩ := s.cpu.xce_s
      exact ⟨hlo, hs.imp_right fun ⟨hhi, he⟩ => ⟨hhi, he, rfl⟩⟩
    · have hk : t.cpu.s = s.cpu.s := exec_kept_of_notMem h .s nofun (by simp [Reg.writers, hm, hi])
      exact ⟨congrArg loByte hk, .inl hk⟩

/-- Settles O24: `exec_kept` for each flag, and for BIT with an immediate the flags `State.bitImm` leaves. -/
theorem flagWriters : Obligations.FlagWriters := by
  intro i s t h hs
  have kept (f : Flag) (hm : i.mnemonic ∉ (Reg.flag f).writers) : t.cpu.flag f = s.cpu.flag f :=
    exec_kept_of_notMem h (.flag f) nofun hm
  refine ⟨fun hn hb => kept .n (by simp [Reg.writers, hs, hn, hb]), fun hv => kept .v (by simpa [Reg.writers, hs] using hv),
    fun hx => ⟨kept .m (by simp [Reg.writers, hs, hx]), kept .x (by simp [Reg.writers, hs, hx])⟩,
    fun hd => kept .d (by simpa [Reg.writers, hs] using hd), fun hi => kept .i (by simpa [Reg.writers, hs] using hi),
    fun hn hz => kept .z (by simpa [Reg.writers, hs, hn] using hz), fun hc => kept .c (by simp [Reg.writers, hs, hc]), ?_⟩
  rintro v rfl
  obtain rfl := Host.Outcome.next.inj h
  exact ⟨s.bitImm_changes v (.flag .n) (by simp), s.bitImm_changes v (.flag .v) (by simp)⟩

end Sys2Proof.Proofs
end

section
/-! Proofs that every step answers a next state and keeps the parameters and the cartridge (20_memory.md R94, R96). -/
namespace Sys2Proof.Machine

/-- A slice step answers what its processor step does, and that always answers a next state. -/
theorem State.sliceStep_total (s : State) (f : FrameState) (k : Nat) : ∃ t, s.sliceStep f k = .next t := by
  unfold State.sliceStep
  dsimp only
  generalize (if f.left == f.timerAt && s.bus.plat.hTimerMatches f.line then s.withBus s.bus.raiseTimer else s) = s1
  obtain ⟨u, hu⟩ := s1.cpuStep_total
  exact ⟨_, by rw [hu]⟩

theorem State.sliceStep_keeps {s t : State} {f : FrameState} {k : Nat} (h : s.sliceStep f k = .next t) : s.bus.Keeps t.bus := by
  obtain ⟨s1, u, rfl | rfl, hu, rfl⟩ := State.sliceStep_cases h
  · exact (State.cpuStep_keeps hu).1
  · exact s.bus.raiseTimer_keeps.trans (State.cpuStep_keeps hu).1

/-- A step of the machine answers a next state. -/
theorem State.machineStep_total (s : State) : ∃ t, s.machineStep = .next t := by
  unfold State.machineStep
  split
  · exact s.cpuStep_total
  · split
    · exact s.sliceStep_total _ _
    · exact ⟨_, rfl⟩

/-- A step of the machine, of any kind, keeps the parameters, the cartridge and the form of the stores. -/
theorem State.machineStep_keeps {s t : State} (h : s.machineStep = .next t) : s.bus.Keeps t.bus := by
  unfold State.machineStep at h
  split at h
  · exact (State.cpuStep_keeps h).1
  · split at h
    · exact State.sliceStep_keeps h
    · obtain rfl := Host.Outcome.next.inj h
      exact (s.bus.endLine_keeps _).trans (State.nextLine_keeps (s.withBus _) _)

end Sys2Proof.Machine

namespace Sys2Proof.Proofs
open Sys2Proof.Machine

/-- Settles O12: every kind of step answers a next state, and each keeps the parameters and the cartridge. -/
theorem stepKeepsParameters : Obligations.StepKeepsParameters := fun s =>
  let ⟨t, h⟩ := s.machineStep_total
  ⟨t, h, (State.machineStep_keeps h).cfg, (State.machineStep_keeps h).cart⟩

end Sys2Proof.Proofs
end

section
/-! What an address of each range selects (20_memory.md R82, R84 to R93), and a bus access as the access of its target. -/
namespace Sys2Proof.Machine
open Sys2Proof.Claims

theorem systemBank_of_isSystemBank {bank : Byte} (h : isSystemBank bank) :
    systemBank bank.toNat = true ∧ ¬(bank.toNat = 0x7E ∨ bank.toNat = 0x7F) := by
  simp only [isSystemBank] at h
  simp only [systemBank, Bool.or_eq_true, Bool.and_eq_true, decide_eq_true_eq]
  omega

section
variable (cfg : Config) (cart : Cartridge) {bank : Byte} {off : Word}

theorem busTarget_bank7E (off : Word) : busTarget cfg cart (mkAddr 0x7E off) = .wram off.toNat := by
  simp [busTarget]

theorem busTarget_bank7F (off : Word) : busTarget cfg cart (mkAddr 0x7F off) = .wram (0x10000 + off.toNat) := by
  simp [busTarget]

/-! The windows of the system banks: the ranges before a window in the order of R82 do not meet it. -/
variable (hb : isSystemBank bank)
include hb

theorem busTarget_lowWram (h : off.toNat ≤ 0x1FFF) : busTarget cfg cart (mkAddr bank off) = .wram off.toNat := by
  simp (disch := omega) only [busTarget, bankOf_mkAddr, offOf_mkAddr, systemBank_of_isSystemBank hb, if_pos, if_true, if_false]

theorem busTarget_mailbox (h : 0x2140 ≤ off.toNat ∧ off.toNat ≤ 0x217F) :
    busTarget cfg cart (mkAddr bank off) = .mailbox (BitVec.ofNat 2 off.toNat) := by
  simp (disch := omega) only [busTarget, bankOf_mkAddr, offOf_mkAddr, systemBank_of_isSystemBank hb, if_pos, if_neg, if_true, if_false]

theorem busTarget_wramPort (h : 0x2180 ≤ off.toNat ∧ off.toNat ≤ 0x2183) :
    busTarget cfg cart (mkAddr bank off) = .wramPort (BitVec.ofNat 2 off.toNat) := by
  simp (disch := omega) only [busTarget, bankOf_mkAddr, offOf_mkAddr, systemBank_of_isSystemBank hb, if_pos, if_neg, if_true, if_false]

theorem busTarget_serial (h : 0x4016 ≤ off.toNat ∧ off.toNat ≤ 0x4017) :
    busTarget cfg cart (mkAddr bank off) = .serial (BitVec.ofNat 1 off.toNat) := by
  simp (disch := omega) only [busTarget, bankOf_mkAddr, offOf_mkAddr, systemBank_of_isSystemBank hb, if_pos, if_neg, if_true, if_false]

theorem busTarget_platform (h : 0x4200 ≤ off.toNat ∧ off.toNat ≤ 0x421F) :
    busTarget cfg cart (mkAddr bank off) = .platform (BitVec.ofNat 5 off.toNat) := by
  simp (disch := omega) only [busTarget, bankOf_mkAddr, offOf_mkAddr, systemBank_of_isSystemBank hb, if_pos, if_neg, if_true, if_false]

theorem busTarget_dma (h : 0x4300 ≤ off.toNat ∧ off.toNat ≤ 0x437F) :
    busTarget cfg cart (mkAddr bank off) = .dma (BitVec.ofNat 3 (off.toNat / 16)) (BitVec.ofNat 4 off.toNat) := by
  simp (disch := omega) only [busTarget, bankOf_mkAddr, offOf_mkAddr, systemBank_of_isSystemBank hb, if_pos, if_neg, if_true, if_false]

/-- The address the spec writes for DMA register `r` of channel `c` selects it (60_exceptions.md R437). -/
theorem busTarget_dmaAddr (c : BitVec 3) (r : BitVec 4) : busTarget cfg cart (dmaAddr bank c r) = .dma c r := by
  have hc := c.isLt
  have hr := r.isLt
  have ho : (BitVec.ofNat 16 (0x4300 + 16 * c.toNat + r.toNat)).toNat = 0x4300 + 16 * c.toNat + r.toNat :=
    Nat.mod_eq_of_lt (by omega)
  have hC : BitVec.ofNat 3 ((0x4300 + 16 * c.toNat + r.toNat) / 16) = c := by
    apply BitVec.eq_of_toNat_eq; rw [BitVec.toNat_ofNat]; omega
  have hR : BitVec.ofNat 4 (0x4300 + 16 * c.toNat + r.toNat) = r := by
    apply BitVec.eq_of_toNat_eq; rw [BitVec.toNat_ofNat]; omega
  rw [dmaAddr, busTarget_dma cfg cart hb (by omega), ho, hC, hR]

end

/-- An address outside WRAM and the register windows is the cartridge's (20_memory.md R82). -/
theorem busTarget_of_isCartridge (cfg : Config) (cart : Cartridge) {bank : Byte} {off : Word} (h : isCartridge bank off) :
    busTarget cfg cart (mkAddr bank off) = cartTarget cfg cart bank.toNat off.toNat := by
  obtain ⟨h7E, h7F, hsys⟩ := h
  have hw : ¬(bank.toNat = 0x7E ∨ bank.toNat = 0x7F) := by
    rintro (e | e)
    · exact h7E (BitVec.eq_of_toNat_eq e)
    · exact h7F (BitVec.eq_of_toNat_eq e)
  simp only [busTarget, bankOf_mkAddr, offOf_mkAddr, hw, if_false]
  split
  · next hs =>
    obtain ⟨hlo, hwin⟩ := hsys (by simpa [systemBank, isSystemBank] using hs)
    simp only [List.forall_mem_cons] at hwin
    obtain ⟨h1, h2, h3, h4, h5, h6, _⟩ := hwin
    rw [if_neg (by omega), if_neg h1, if_neg h2, if_neg h3, if_neg h4, if_neg h5, if_neg h6]
  · rfl

/-- The cartridge's answer is the mapper's ROM byte, else its SRAM byte, else nothing (20_memory.md R92, R93). -/
theorem cartTarget_eq (b : Bus) (bank off : Nat) :
    cartTarget b.cfg b.cart bank off = (romIndex b bank off).elim ((sramIndex b bank off).elim .unmapped .sram) .rom := by
  unfold cartTarget romIndex sramIndex
  cases b.cart.mapper with
  | loROM =>
    simp only [loRomTarget, show bank &&& 0x7F = bank % 0x80 from Nat.and_two_pow_sub_one_eq_mod bank 7]
    split
    · rfl
    · split <;> rfl
  | hiROM =>
    simp only [hiRomTarget, show bank &&& 0x3F = bank % 0x40 from Nat.and_two_pow_sub_one_eq_mod bank 6]
    split
    · rfl
    · split <;> rfl

namespace Bus
variable {b : Bus} {a : Addr} {t : Target}

theorem read_of_target (h : busTarget b.cfg b.cart a = t) : b.read a = b.readAt t := by
  rw [Bus.read, h]

/-- A write that does not select MDMAEN or HDMAEN is the access and the latch (60_exceptions.md R424, R425). -/
theorem write_of_target (h : busTarget b.cfg b.cart a = t) (hB : t ≠ .platform 0x0B) (hC : t ≠ .platform 0x0C) (v : Byte) :
    b.write a v = b.writeAt t v := by
  simp only [Bus.write, h, hB, hC, if_false]

end Bus
end Sys2Proof.Machine
end

section
/-! Register fields as the numbers the spec writes into them. -/
namespace Sys2Proof.Machine

/-- A concatenation as the number it stands for. -/
theorem append_eq_ofNat {m n : Nat} (hi : BitVec m) (lo : BitVec n) :
    hi ++ lo = BitVec.ofNat (m + n) (hi.toNat * 2 ^ n + lo.toNat) := by
  apply BitVec.eq_of_toNat_eq
  have h := (hi ++ lo).isLt
  rw [BitVec.toNat_append, ← Nat.shiftLeft_add_eq_or_of_lt lo.isLt, Nat.shiftLeft_eq] at h ⊢
  rw [BitVec.toNat_ofNat, Nat.mod_eq_of_lt h]

theorem toNat_lowBits {w : Nat} (p : BitVec w) (n : Nat) : (p.extractLsb' 0 n).toNat = p.toNat % 2 ^ n := by
  rw [BitVec.extractLsb'_toNat, Nat.shiftRight_zero]

theorem toNat_highBits {m n : Nat} (p : BitVec (m + n)) : (p.extractLsb' n m).toNat = p.toNat / 2 ^ n := by
  rw [BitVec.extractLsb'_toNat, Nat.shiftRight_eq_div_pow, Nat.mod_eq_of_lt]
  exact Nat.div_lt_of_lt_mul (by rw [Nat.mul_comm, ← Nat.pow_add]; exact p.isLt)

/-- The low `n` bits of a register replaced. -/
theorem highBits_append {m n : Nat} (p : BitVec (m + n)) (v : BitVec n) :
    p.extractLsb' n m ++ v = BitVec.ofNat (m + n) (p.toNat / 2 ^ n * 2 ^ n + v.toNat) := by
  rw [append_eq_ofNat, toNat_highBits]

/-- The bits above the low `n` of a register replaced by the low bits of `v`. -/
theorem append_lowBits {w w' m n : Nat} (v : BitVec w) (p : BitVec w') :
    v.extractLsb' 0 m ++ p.extractLsb' 0 n = BitVec.ofNat (m + n) (v.toNat % 2 ^ m * 2 ^ n + p.toNat % 2 ^ n) := by
  rw [append_eq_ofNat, toNat_lowBits, toNat_lowBits]

theorem add_one_eq_ofNat {w : Nat} (p : BitVec w) : p + 1#w = BitVec.ofNat w (p.toNat + 1) := by
  rw [BitVec.ofNat_add, BitVec.ofNat_toNat, BitVec.setWidth_eq]

/-! The pointer of the WRAM port, whose registers hold bits 7:0, 15:8 and 16 (20_memory.md R88). -/

theorem wramPtr_withLow (p : BitVec 17) (v : Byte) :
    p.extractLsb' 8 9 ++ v = BitVec.ofNat 17 (p.toNat / 0x100 * 0x100 + v.toNat) := highBits_append (m := 9) (n := 8) p v

theorem wramPtr_withMiddle (p : BitVec 17) (v : Byte) :
    p.extractLsb' 16 1 ++ (v ++ p.extractLsb' 0 8) =
      BitVec.ofNat 17 (p.toNat / 0x10000 * 0x10000 + v.toNat * 0x100 + p.toNat % 0x100) := by
  have hp := toNat_highBits (m := 1) (n := 16) p
  have hl : (v ++ p.extractLsb' 0 8).toNat = v.toNat * 2 ^ 8 + p.toNat % 2 ^ 8 := by
    rw [append_eq_ofNat, toNat_lowBits, BitVec.toNat_ofNat, Nat.mod_eq_of_lt]
    omega
  rw [append_eq_ofNat, hp, hl]
  exact congrArg (BitVec.ofNat 17) (Nat.add_assoc _ _ _).symm

theorem wramPtr_withHigh (p : BitVec 17) (v : Byte) :
    v.extractLsb' 0 1 ++ p.extractLsb' 0 16 = BitVec.ofNat 17 (v.toNat % 2 * 0x10000 + p.toNat % 0x10000) :=
  append_lowBits v p

/-! HTIME and VTIME, whose registers hold bits 7:0 and 8 (60_exceptions.md R422, R423). -/

theorem time_withLow (p : BitVec 9) (v : Byte) :
    p.extractLsb' 8 1 ++ v = BitVec.ofNat 9 (p.toNat / 0x100 * 0x100 + v.toNat) := highBits_append (m := 1) (n := 8) p v

theorem time_withHigh (p : BitVec 9) (v : Byte) :
    v.extractLsb' 0 1 ++ p.extractLsb' 0 8 = BitVec.ofNat 9 (v.toNat % 2 * 0x100 + p.toNat % 0x100) :=
  append_lowBits v p

end Sys2Proof.Machine
end

section
/-! Proofs about what the bus addresses select: WRAM, the cartridge, open bus and the WRAM port. -/
namespace Sys2Proof.Proofs
open Sys2Proof.Machine Sys2Proof.Claims

/-- Settles O51: each range selects its byte of WRAM, and an access of a byte of WRAM is the model's. -/
theorem wramMap : Obligations.WramMap := by
  intro b bank off v
  have h7E := busTarget_bank7E b.cfg b.cart off
  have h7F := busTarget_bank7F b.cfg b.cart off
  have write {a : Addr} {k : Nat} (h : busTarget b.cfg b.cart a = .wram k) : b.write a v = wramWritten b k v :=
    Bus.write_of_target h nofun nofun v
  refine ⟨fun hb ho => ?_, Bus.read_of_target h7E, write h7E, Bus.read_of_target h7F, write h7F⟩
  have hlow := busTarget_lowWram b.cfg b.cart hb ho
  exact ⟨Bus.read_of_target hlow, write hlow, (Bus.read_of_target hlow).trans (Bus.read_of_target h7E).symm,
    (write hlow).trans (write h7E).symm⟩

/-- Settles O52: the mapper's target is the ROM byte, the SRAM byte or none by `cartTarget_eq`, and each is accessed as itself. -/
theorem cartridgeMap : Obligations.CartridgeMap := by
  intro b bank off v hcart
  have target := (busTarget_of_isCartridge b.cfg b.cart hcart).trans (cartTarget_eq b _ _)
  refine ⟨fun k hrom => ?_, fun hrom k hsram => ?_, fun hrom hsram => ?_⟩
  · rw [hrom] at target
    exact ⟨Bus.read_of_target target, Bus.write_of_target target nofun nofun v⟩
  · rw [hrom, hsram] at target
    exact ⟨Bus.read_of_target target, Bus.write_of_target target nofun nofun v⟩
  · rw [hrom, hsram] at target
    exact ⟨Bus.read_of_target target, Bus.write_of_target target nofun nofun v⟩

/-- Settles O54: a write that starts no DMA ends with the latch, and ROM and unmapped targets ignore it before. -/
theorem openBusLatch : Obligations.OpenBusLatch := by
  intro b a v
  refine ⟨b.read_latch a, fun hB hC => ?_, fun h => Bus.read_of_target h, ?_⟩
  · rw [Bus.write_of_target rfl hB hC v]
    rfl
  · rintro (h | ⟨k, h⟩)
    · exact Bus.write_of_target h nofun nofun v
    · exact Bus.write_of_target h nofun nofun v

/-- Settles O55: the four registers are targets of their own, and WRAMADD's new bits are the number the spec gives. -/
theorem wramPort : Obligations.WramPort := by
  intro b bank v hb
  have t0 : busTarget b.cfg b.cart (mkAddr bank 0x2180) = .wramPort 0 := busTarget_wramPort _ _ hb (by decide)
  have t1 : busTarget b.cfg b.cart (mkAddr bank 0x2181) = .wramPort 1 := busTarget_wramPort _ _ hb (by decide)
  have t2 : busTarget b.cfg b.cart (mkAddr bank 0x2182) = .wramPort 2 := busTarget_wramPort _ _ hb (by decide)
  have t3 : busTarget b.cfg b.cart (mkAddr bank 0x2183) = .wramPort 3 := busTarget_wramPort _ _ hb (by decide)
  refine ⟨?_, ?_, Bus.read_of_target t1, Bus.read_of_target t2, Bus.read_of_target t3, ?_, ?_, ?_⟩
  · rw [← add_one_eq_ofNat]
    exact Bus.read_of_target t0
  · rw [← add_one_eq_ofNat]
    exact Bus.write_of_target t0 nofun nofun v
  · rw [← wramPtr_withLow]
    exact Bus.write_of_target t1 nofun nofun v
  · rw [← wramPtr_withMiddle]
    exact Bus.write_of_target t2 nofun nofun v
  · rw [← wramPtr_withHigh]
    exact Bus.write_of_target t3 nofun nofun v

end Sys2Proof.Proofs
end

section
/-! The controller ports (20_memory.md R89): the byte a read returns, what it leaves in the shift registers, and runs of reads. -/
namespace Sys2Proof.Machine
open Sys2Proof.Claims

/-- The byte of a port: one bit, and bits 7:1 from the latch (log 16). -/
def serialByte (latch : Byte) (bit : Bool) : Byte := (latch &&& 0xFE) ||| (if bit then 1 else 0)

theorem serialByte_bit0 (latch : Byte) (bit : Bool) : (serialByte latch bit).getLsbD 0 = bit := by
  cases bit <;> simp [serialByte]

theorem serialByte_upper (latch : Byte) (bit : Bool) : serialByte latch bit &&& 0xFE = latch &&& 0xFE := by
  have hbit : (if bit then 1 else 0 : Byte) &&& 0xFE = 0#8 := by cases bit <;> decide
  rw [serialByte, BitVec.and_or_distrib_right, hbit, BitVec.and_assoc, BitVec.and_self, BitVec.or_zero]

/-- The shift register of a port. -/
def portShift (b : Bus) (q : BitVec 1) : Word := if q = 0 then b.pads.shift0 else b.pads.shift1

/-- A shift register after a read: the mask has moved up and a 1 has come in. -/
def shifted (w : Word) : Word := w <<< 1 ||| 1

theorem shifted_bit (w : Word) (k : Nat) :
    (decide (16 ≤ k) || (shifted w).getLsbD (15 - k)) = (decide (16 ≤ k + 1) || w.getLsbD (15 - (k + 1))) := by
  by_cases h : 15 ≤ k
  · simp [shifted, show 16 ≤ k + 1 by omega, show 15 - k = 0 by omega]
  · have hk : 15 - k = 14 - k + 1 := by omega
    simp [shifted, hk, show ¬15 ≤ k by omega, show ¬16 ≤ k by omega, show 14 - k < 16 by omega,
      show 14 - k + 1 < 16 by omega, BitVec.getLsbD_eq_getElem]

/-! One access of a port. -/

namespace Bus
variable {b : Bus} {bank : Byte}

/-- The byte of a port: bit 15 of the mask while the strobe is 1, else of the shift register. -/
theorem readAt_serial_v (b : Bus) (q : BitVec 1) :
    (b.readAt (.serial q)).v = serialByte b.latch ((if b.pads.strobe then portMask b q else portShift b q).getLsbD 15) := by
  simp only [Bus.readAt, Bus.readTarget, Bus.readSerial]
  split <;> rfl

theorem readAt_serial_of_strobe (h : b.pads.strobe = true) (q : BitVec 1) : (b.readAt (.serial q)).bus.pads = b.pads := by
  simp only [Bus.readAt, Bus.readTarget, Bus.readSerial, h, if_true]

theorem readAt_serial_of_shift (h : b.pads.strobe = false) (q : BitVec 1) :
    (b.readAt (.serial q)).bus.pads.strobe = false ∧
      portShift (b.readAt (.serial q)).bus q = shifted (portShift b q) := by
  obtain rfl | rfl := BitVec.eq_zero_or_eq_one q <;>
    simp [Bus.readAt, Bus.readTarget, Bus.readSerial, h, portShift, shifted]

variable (hb : isSystemBank bank)
include hb

theorem busTarget_port (cfg : Config) (cart : Cartridge) (q : BitVec 1) :
    busTarget cfg cart (mkAddr bank (0x4016 + q.setWidth 16)) = .serial q := by
  obtain rfl | rfl := BitVec.eq_zero_or_eq_one q
  · exact busTarget_serial cfg cart hb (by decide)
  · exact busTarget_serial cfg cart hb (by decide)

theorem read_port (b : Bus) (q : BitVec 1) : b.read (mkAddr bank (0x4016 + q.setWidth 16)) = b.readAt (.serial q) :=
  Bus.read_of_target (busTarget_port hb _ _ q)

/-- A write of 0x4016. -/
theorem write_port (b : Bus) (v : Byte) :
    b.write (mkAddr bank 0x4016) v = { b with pads := b.pads.write 0 v, latch := v } :=
  Bus.write_of_target (busTarget_port hb _ _ 0) nofun nofun v

end Bus

/-! Runs of reads. -/

section
variable {bank : Byte} (hb : isSystemBank bank) (q : BitVec 1) (n : Nat)
include hb

/-- The first bit of a run is that of one read, and the rest is a run from the bus after it. -/
theorem serialBits_succ (b : Bus) :
    serialBits bank q (n + 1) b = (if b.pads.strobe then portMask b q else portShift b q).getLsbD 15 ::
      serialBits bank q n (b.readAt (.serial q)).bus := by
  rw [serialBits, Bus.read_port hb b q, Bus.readAt_serial_v, serialByte_bit0]

theorem serialBits_of_strobe {b : Bus} (h : b.pads.strobe = true) :
    serialBits bank q n b = List.replicate n ((portMask b q).getLsbD 15) := by
  induction n generalizing b with
  | zero => rfl
  | succ n ih =>
    have hpads := Bus.readAt_serial_of_strobe h q
    simp only [serialBits_succ hb, ih (hpads ▸ h), List.replicate_succ, h, portMask, hpads, if_true]

theorem serialBits_of_shift {b : Bus} (h : b.pads.strobe = false) :
    serialBits bank q n b = (List.range n).map fun k => decide (16 ≤ k) || (portShift b q).getLsbD (15 - k) := by
  induction n generalizing b with
  | zero => rfl
  | succ n ih =>
    obtain ⟨hstrobe, hshift⟩ := Bus.readAt_serial_of_shift h q
    rw [serialBits_succ hb, ih hstrobe, hshift, h, List.range_succ_eq_map, List.map_cons, List.map_map]
    exact congrArg _ (List.map_congr_left fun k _ => shifted_bit _ k)

end

end Sys2Proof.Machine

namespace Sys2Proof.Proofs
open Sys2Proof.Machine Sys2Proof.Claims

/-- Settles O58: the two writes leave the mask in the shift register, and the reads are those of `serialBits_of_shift` and
`serialBits_of_strobe`. -/
theorem controllerPorts : Obligations.ControllerPorts := by
  intro b bank q n hb
  refine ⟨⟨?_, ?_⟩, ?_⟩
  · rw [Bus.write_port hb, Bus.write_port hb]
    exact serialBits_of_shift hb q n rfl
  · rw [Bus.write_port hb]
    exact serialBits_of_strobe hb q n rfl
  · rw [Bus.read_port hb b q, Bus.readAt_serial_v, serialByte_upper]

end Sys2Proof.Proofs
end

section
/-! A DMA channel as the table of its twelve bytes (60_exceptions.md R437). -/
namespace Sys2Proof.Machine
open Sys2Proof.Claims

theorem dmaByteNumber_toNat : ∀ r : BitVec 4, (dmaByteNumber r).toNat = if r.toNat = 0xF then 0xB else r.toNat := by decide

namespace Channel
variable (ch : Channel) {r r' : BitVec 4}

/-- The bytes of a channel's registers at offsets 0x0 to 0xB. -/
def bytes : List Byte :=
  [ch.dmap, ch.bbad, loByte ch.a1t, hiByte ch.a1t, ch.a1b, loByte ch.das, hiByte ch.das, ch.dasb, loByte ch.a2a, hiByte ch.a2a,
    ch.ntrl, ch.unused]

theorem read_eq_bytes (r : BitVec 4) : ch.read r = ch.bytes[(dmaByteNumber r).toNat]? := by
  have hr := r.isLt
  rw [dmaByteNumber_toNat, Channel.read]
  generalize r.toNat = k at hr
  interval_cases k <;> rfl

theorem bytes_write (r : BitVec 4) (v : Byte) : (ch.write r v).bytes = ch.bytes.set (dmaByteNumber r).toNat v := by
  have hr := r.isLt
  rw [dmaByteNumber_toNat, Channel.write]
  generalize r.toNat = k at hr
  interval_cases k <;> simp [bytes, withLo, withHi]

/-- The offsets that hold a register are those of the table. -/
theorem byteNumber_lt (h : r.toNat ≤ 0xB ∨ r = 0xF) : (dmaByteNumber r).toNat < ch.bytes.length := by
  have hlen : ch.bytes.length = 12 := rfl
  obtain h | rfl := h
  · rw [dmaByteNumber_toNat]
    split <;> omega
  · rw [hlen]
    decide

theorem read_write_self (h : r.toNat ≤ 0xB ∨ r = 0xF) (v : Byte) : (ch.write r v).read r = some v := by
  rw [read_eq_bytes, bytes_write, List.getElem?_set_self (ch.byteNumber_lt h)]

theorem read_write_other (h : dmaByteNumber r' ≠ dmaByteNumber r) (v : Byte) : (ch.write r v).read r' = ch.read r' := by
  rw [read_eq_bytes, bytes_write, List.getElem?_set_ne fun e => h (BitVec.eq_of_toNat_eq e.symm), ← read_eq_bytes]

theorem exists_read (h : r.toNat ≤ 0xB ∨ r = 0xF) : ∃ v, ch.read r = some v :=
  ⟨_, (ch.read_eq_bytes r).trans (List.getElem?_eq_getElem (ch.byteNumber_lt h))⟩

theorem read_unused (h : 0xC ≤ r.toNat ∧ r.toNat ≤ 0xE) : ch.read r = none := by
  obtain ⟨h1, h2⟩ := h
  rw [Channel.read]
  generalize r.toNat = k at h1 h2
  interval_cases k <;> rfl

theorem write_unused (h : 0xC ≤ r.toNat ∧ r.toNat ≤ 0xE) (v : Byte) : ch.write r v = ch := by
  obtain ⟨h1, h2⟩ := h
  rw [Channel.write]
  generalize r.toNat = k at h1 h2
  interval_cases k <;> rfl

end Channel

theorem Eight.set_get_self {α : Type} (f : Eight α) (c : BitVec 3) : f.set c (f.get c) = f := by
  obtain rfl | rfl | rfl | rfl | rfl | rfl | rfl | rfl := channel_cases c <;> rfl

namespace Bus
variable {bank : Byte} (hb : isSystemBank bank)
include hb

theorem peek_dmaAddr (b : Bus) (c : BitVec 3) (r : BitVec 4) :
    b.peek (dmaAddr bank c r) = ((b.dma.get c).read r).getD b.latch := by
  rw [Bus.peek, Bus.read_of_target (busTarget_dmaAddr _ _ hb c r)]
  rfl

theorem write_dmaAddr (b : Bus) (c : BitVec 3) (r : BitVec 4) (v : Byte) :
    b.write (dmaAddr bank c r) v = { b with latch := v, dma := b.dma.set c ((b.dma.get c).write r v) } :=
  Bus.write_of_target (busTarget_dmaAddr _ _ hb c r) nofun nofun v

/-- The offsets of a channel without a register are open bus. -/
theorem dmaAddr_unused (b : Bus) (c : BitVec 3) {r : BitVec 4} (h : 0xC ≤ r.toNat ∧ r.toNat ≤ 0xE) (v : Byte) :
    b.write (dmaAddr bank c r) v = { b with latch := v } ∧ b.read (dmaAddr bank c r) = { v := b.latch, bus := b } := by
  constructor
  · rw [write_dmaAddr hb, Channel.write_unused _ h, Eight.set_get_self]
  · rw [Bus.read_of_target (busTarget_dmaAddr _ _ hb c r)]
    simp only [Bus.readAt, Bus.readTarget, Channel.read_unused _ h, Option.getD_none]

theorem peek_dmaAddr_write_self (b : Bus) (c : BitVec 3) {r : BitVec 4} (h : r.toNat ≤ 0xB ∨ r = 0xF) (v : Byte) :
    (b.write (dmaAddr bank c r) v).peek (dmaAddr bank c r) = v := by
  rw [peek_dmaAddr hb, write_dmaAddr hb, Eight.get_set_self, Channel.read_write_self _ h, Option.getD_some]

/-- A write of one DMA register keeps every other one: those of the other channels, and those of this one with another number. -/
theorem peek_dmaAddr_write_other (b : Bus) (c c' : BitVec 3) {r r' : BitVec 4} (h' : r'.toNat ≤ 0xB ∨ r' = 0xF)
    (hne : c' ≠ c ∨ dmaByteNumber r' ≠ dmaByteNumber r) (v : Byte) :
    (b.write (dmaAddr bank c r) v).peek (dmaAddr bank c' r') = b.peek (dmaAddr bank c' r') := by
  obtain ⟨x, hx⟩ := (b.dma.get c').exists_read h'
  have hread : (((b.dma.set c ((b.dma.get c).write r v)).get c').read r') = some x := by
    by_cases hc : c' = c
    · subst hc
      rw [Eight.get_set_self, Channel.read_write_other _ (hne.resolve_left fun n => n rfl), hx]
    · rw [Eight.get_set_other _ _ _ _ hc, hx]
  rw [peek_dmaAddr hb, peek_dmaAddr hb, write_dmaAddr hb, hx, hread, Option.getD_some, Option.getD_some]

end Bus
end Sys2Proof.Machine
end

section
/-! The platform registers and the mailbox (60_exceptions.md R417 to R436, 20_memory.md R87). -/
namespace Sys2Proof.Machine
open Sys2Proof.Claims

namespace Bus

/-- 0x4200 to 0x420F hold nothing to read: a read is open bus (60_exceptions.md R427, R428). -/
theorem readPlatform_of_writeOnly (b : Bus) {r : BitVec 5} (h : r.toNat ≤ 0x0F) : b.readPlatform r = { v := b.latch, bus := b } := by
  unfold Bus.readPlatform
  generalize r.toNat = k at h
  interval_cases k <;> rfl

/-- 0x420E to 0x421F hold nothing to write: a write is ignored (60_exceptions.md R427, R428). -/
theorem writePlatform_of_readOnly (b : Bus) {r : BitVec 5} (h : 0x0E ≤ r.toNat) (v : Byte) : b.writePlatform r v = b := by
  have hr := r.isLt
  unfold Bus.writePlatform
  generalize r.toNat = k at h hr
  interval_cases k <;> rfl

variable {bank : Byte} (hb : isSystemBank bank)
include hb

theorem read_platform (b : Bus) {off : Word} (h : 0x4200 ≤ off.toNat ∧ off.toNat ≤ 0x421F) :
    b.read (mkAddr bank off) = b.readAt (.platform (BitVec.ofNat 5 off.toNat)) :=
  Bus.read_of_target (busTarget_platform _ _ hb h)

/-- A write of a platform register other than MDMAEN and HDMAEN. -/
theorem write_platform (b : Bus) {off : Word} (h : 0x4200 ≤ off.toNat ∧ off.toNat ≤ 0x421F) (hB : off ≠ 0x420B)
    (hC : off ≠ 0x420C) (v : Byte) :
    b.write (mkAddr bank off) v = b.writeAt (.platform (BitVec.ofNat 5 off.toNat)) v := by
  have ne {k : BitVec 5} {x : Word} (hx : x.toNat = 0x4200 + k.toNat) (hne : off ≠ x) :
      Target.platform (BitVec.ofNat 5 off.toNat) ≠ .platform k := by
    intro e
    have hk : (BitVec.ofNat 5 off.toNat).toNat = k.toNat := congrArg BitVec.toNat (Target.platform.inj e)
    rw [BitVec.toNat_ofNat] at hk
    exact hne (BitVec.eq_of_toNat_eq (by omega))
  exact Bus.write_of_target (busTarget_platform _ _ hb h) (ne rfl hB) (ne rfl hC) v

theorem read_writeOnly (b : Bus) {off : Word} (h : 0x4200 ≤ off.toNat ∧ off.toNat ≤ 0x420F) :
    b.read (mkAddr bank off) = { v := b.latch, bus := b } := by
  have hr : (BitVec.ofNat 5 off.toNat).toNat ≤ 0x0F := by rw [BitVec.toNat_ofNat]; omega
  rw [read_platform hb b (by omega)]
  simp only [Bus.readAt, Bus.readTarget, b.readPlatform_of_writeOnly hr]

theorem write_readOnly (b : Bus) {off : Word} (h : 0x420E ≤ off.toNat ∧ off.toNat ≤ 0x421F) (v : Byte) :
    b.write (mkAddr bank off) v = { b with latch := v } := by
  have hr : 0x0E ≤ (BitVec.ofNat 5 off.toNat).toNat := by rw [BitVec.toNat_ofNat]; omega
  have ne {x : Word} (hx : x.toNat < 0x420E) : off ≠ x := by rintro rfl; omega
  rw [write_platform hb b (by omega) (ne (by decide)) (ne (by decide))]
  simp only [Bus.writeAt, Bus.writeTarget, b.writePlatform_of_readOnly hr]

/-- Port `p` of the mailbox stands at sixteen offsets (20_memory.md R87). -/
theorem busTarget_mailboxMirror (cfg : Config) (cart : Cartridge) {k p : Nat} (hk : k < 16) (hp : p < 4) :
    busTarget cfg cart (mkAddr bank (BitVec.ofNat 16 (0x2140 + 4 * k + p))) = .mailbox (BitVec.ofNat 2 p) := by
  have ho : (BitVec.ofNat 16 (0x2140 + 4 * k + p)).toNat = 0x2140 + 4 * k + p := Nat.mod_eq_of_lt (by omega)
  have hport : BitVec.ofNat 2 (0x2140 + 4 * k + p) = BitVec.ofNat 2 p := by
    apply BitVec.eq_of_toNat_eq
    rw [BitVec.toNat_ofNat, BitVec.toNat_ofNat]
    omega
  rw [busTarget_mailbox cfg cart hb (by omega), ho, hport]

end Bus

/-! The bits of a byte that reads a flag in bit 7, and those of HVBJOY below it (60_exceptions.md R432). -/

theorem bit7_top (f : Bool) (low : Byte) : (bit7 f low).getLsbD 7 = f := by
  cases f <;> simp [bit7]

theorem bit7_low (f : Bool) (low : Byte) {k : Nat} (h : k < 7) : (bit7 f low).getLsbD k = low.getLsbD k := by
  interval_cases k <;> cases f <;> simp [bit7]

theorem hvbjoy_low (free : Bool) (latch : Byte) {k : Nat} (h : k ≤ 5) :
    ((if free then 0x40 else 0x00 : Byte) ||| (latch &&& 0x3E)).getLsbD k = (decide (1 ≤ k) && latch.getLsbD k) := by
  interval_cases k <;> cases free <;> simp

end Sys2Proof.Machine

namespace Sys2Proof.Proofs
open Sys2Proof.Machine Sys2Proof.Claims

/-- Settles O53: every address selects its own register, which the mailbox, the plain platform registers and the joypad registers
access as the model says; HVBJOY is read bit by bit, and a DMA channel is the table of its bytes. -/
theorem deviceRegisters : Obligations.DeviceRegisters := by
  intro b bank v hb
  have write {off : Word} : (0x4200 ≤ off.toNat ∧ off.toNat ≤ 0x421F) ∧ off ≠ 0x420B ∧ off ≠ 0x420C →
      b.write (mkAddr bank off) v = b.writeAt (.platform (BitVec.ofNat 5 off.toNat)) v :=
    fun ⟨hoff, hB, hC⟩ => Bus.write_platform hb b hoff hB hC v
  have read {off : Word} (h : 0x4200 ≤ off.toNat ∧ off.toNat ≤ 0x421F) := Bus.read_platform hb b h
  refine ⟨?mailbox, write (by decide), congrArg BusRead.v (read (by decide)), write (by decide), write (by decide),
    write (by decide), ?htimel, ?htimeh, ?vtimel, ?vtimeh, write (by decide), ?hvbjoy, ?joy,
    fun off h h' => Bus.read_writeOnly hb b ⟨h, h'⟩, fun off h h' => Bus.write_readOnly hb b ⟨h, h'⟩ v, ?dma⟩
  case mailbox =>
    intro k p hk hp
    have target := Bus.busTarget_mailboxMirror hb b.cfg b.cart hk hp
    exact ⟨Bus.write_of_target target nofun nofun v, Bus.read_of_target target⟩
  case htimel | vtimel =>
    rw [← time_withLow]
    exact write (by decide)
  case htimeh | vtimeh =>
    rw [← time_withHigh]
    exact write (by decide)
  case hvbjoy =>
    rw [read (off := 0x4212) (by decide)]
    refine ⟨bit7_top _ _, ?_, fun k h1 h5 => ?_, rfl⟩
    · exact (bit7_low _ _ (by decide)).trans (hvbjoy_low _ _ (by decide))
    · exact ((bit7_low _ _ (by omega)).trans (hvbjoy_low _ _ h5)).trans (by simp [h1])
  case joy =>
    intro p hp
    interval_cases p <;> exact ⟨read (by decide), read (by decide)⟩
  case dma =>
    intro c r
    refine ⟨fun h h' => Bus.dmaAddr_unused hb b c ⟨h, h'⟩ v, fun h => ⟨Bus.peek_dmaAddr_write_self hb b c h v,
      fun c' r' h' hne => Bus.peek_dmaAddr_write_other hb b c c' h' hne v, ?_⟩⟩
    rw [Bus.write_dmaAddr hb]

end Sys2Proof.Proofs
end

section
/-! Decoding and encoding agree (30_encoding.md R140 to R147): what the rows of the opcode map make of operand bytes, and what
`decode` takes from a byte string. -/
namespace Sys2Proof

open Laws.RoundTrip in
/-- The encoding of every well-formed instruction decodes to it: each constructor by its lemma of the family RoundTrip. -/
theorem decode_encode : (i : Instr) → Statement i
  | .brk v => brk v | .oraDpXInd v => oraDpXInd v | .cop v => cop v | .oraSr v => oraSr v | .tsbDp v => tsbDp v
  | .oraDp v => oraDp v | .aslDp v => aslDp v | .oraDpIndLong v => oraDpIndLong v | .php => php | .oraImm v => oraImm v
  | .aslAcc => aslAcc | .phd => phd | .tsbAbs v => tsbAbs v | .oraAbs v => oraAbs v | .aslAbs v => aslAbs v
  | .oraLong v => oraLong v | .bpl v => bpl v | .oraDpIndY v => oraDpIndY v | .oraDpInd v => oraDpInd v
  | .oraSrIndY v => oraSrIndY v | .trbDp v => trbDp v | .oraDpX v => oraDpX v | .aslDpX v => aslDpX v
  | .oraDpIndLongY v => oraDpIndLongY v | .clc => clc | .oraAbsY v => oraAbsY v | .incAcc => incAcc | .tcs => tcs
  | .trbAbs v => trbAbs v | .oraAbsX v => oraAbsX v | .aslAbsX v => aslAbsX v | .oraLongX v => oraLongX v
  | .jsrAbs v => jsrAbs v | .andDpXInd v => andDpXInd v | .jsl v => jsl v | .andSr v => andSr v | .bitDp v => bitDp v
  | .andDp v => andDp v | .rolDp v => rolDp v | .andDpIndLong v => andDpIndLong v | .plp => plp | .andImm v => andImm v
  | .rolAcc => rolAcc | .pld => pld | .bitAbs v => bitAbs v | .andAbs v => andAbs v | .rolAbs v => rolAbs v
  | .andLong v => andLong v | .bmi v => bmi v | .andDpIndY v => andDpIndY v | .andDpInd v => andDpInd v
  | .andSrIndY v => andSrIndY v | .bitDpX v => bitDpX v | .andDpX v => andDpX v | .rolDpX v => rolDpX v
  | .andDpIndLongY v => andDpIndLongY v | .sec => sec | .andAbsY v => andAbsY v | .decAcc => decAcc | .tsc => tsc
  | .bitAbsX v => bitAbsX v | .andAbsX v => andAbsX v | .rolAbsX v => rolAbsX v | .andLongX v => andLongX v | .rti => rti
  | .eorDpXInd v => eorDpXInd v | .wdm v => wdm v | .eorSr v => eorSr v | .mvp d s => mvp d s | .eorDp v => eorDp v
  | .lsrDp v => lsrDp v | .eorDpIndLong v => eorDpIndLong v | .pha => pha | .eorImm v => eorImm v | .lsrAcc => lsrAcc
  | .phk => phk | .jmpAbs v => jmpAbs v | .eorAbs v => eorAbs v | .lsrAbs v => lsrAbs v | .eorLong v => eorLong v
  | .bvc v => bvc v | .eorDpIndY v => eorDpIndY v | .eorDpInd v => eorDpInd v | .eorSrIndY v => eorSrIndY v
  | .mvn d s => mvn d s | .eorDpX v => eorDpX v | .lsrDpX v => lsrDpX v | .eorDpIndLongY v => eorDpIndLongY v | .cli => cli
  | .eorAbsY v => eorAbsY v | .phy => phy | .tcd => tcd | .jmlLong v => jmlLong v | .eorAbsX v => eorAbsX v
  | .lsrAbsX v => lsrAbsX v | .eorLongX v => eorLongX v | .rts => rts | .adcDpXInd v => adcDpXInd v | .per v => per v
  | .adcSr v => adcSr v | .stzDp v => stzDp v | .adcDp v => adcDp v | .rorDp v => rorDp v | .adcDpIndLong v => adcDpIndLong v
  | .pla => pla | .adcImm v => adcImm v | .rorAcc => rorAcc | .rtl => rtl | .jmpAbsInd v => jmpAbsInd v | .adcAbs v => adcAbs v
  | .rorAbs v => rorAbs v | .adcLong v => adcLong v | .bvs v => bvs v | .adcDpIndY v => adcDpIndY v | .adcDpInd v => adcDpInd v
  | .adcSrIndY v => adcSrIndY v | .stzDpX v => stzDpX v | .adcDpX v => adcDpX v | .rorDpX v => rorDpX v
  | .adcDpIndLongY v => adcDpIndLongY v | .sei => sei | .adcAbsY v => adcAbsY v | .ply => ply | .tdc => tdc
  | .jmpAbsXInd v => jmpAbsXInd v | .adcAbsX v => adcAbsX v | .rorAbsX v => rorAbsX v | .adcLongX v => adcLongX v
  | .bra v => bra v | .staDpXInd v => staDpXInd v | .brl v => brl v | .staSr v => staSr v | .styDp v => styDp v
  | .staDp v => staDp v | .stxDp v => stxDp v | .staDpIndLong v => staDpIndLong v | .dey => dey | .bitImm v => bitImm v
  | .txa => txa | .phb => phb | .styAbs v => styAbs v | .staAbs v => staAbs v | .stxAbs v => stxAbs v | .staLong v => staLong v
  | .bcc v => bcc v | .staDpIndY v => staDpIndY v | .staDpInd v => staDpInd v | .staSrIndY v => staSrIndY v
  | .styDpX v => styDpX v | .staDpX v => staDpX v | .stxDpY v => stxDpY v | .staDpIndLongY v => staDpIndLongY v | .tya => tya
  | .staAbsY v => staAbsY v | .txs => txs | .txy => txy | .stzAbs v => stzAbs v | .staAbsX v => staAbsX v
  | .stzAbsX v => stzAbsX v | .staLongX v => staLongX v | .ldyImm v => ldyImm v | .ldaDpXInd v => ldaDpXInd v
  | .ldxImm v => ldxImm v | .ldaSr v => ldaSr v | .ldyDp v => ldyDp v | .ldaDp v => ldaDp v | .ldxDp v => ldxDp v
  | .ldaDpIndLong v => ldaDpIndLong v | .tay => tay | .ldaImm v => ldaImm v | .tax => tax | .plb => plb | .ldyAbs v => ldyAbs v
  | .ldaAbs v => ldaAbs v | .ldxAbs v => ldxAbs v | .ldaLong v => ldaLong v | .bcs v => bcs v | .ldaDpIndY v => ldaDpIndY v
  | .ldaDpInd v => ldaDpInd v | .ldaSrIndY v => ldaSrIndY v | .ldyDpX v => ldyDpX v | .ldaDpX v => ldaDpX v
  | .ldxDpY v => ldxDpY v | .ldaDpIndLongY v => ldaDpIndLongY v | .clv => clv | .ldaAbsY v => ldaAbsY v | .tsx => tsx
  | .tyx => tyx | .ldyAbsX v => ldyAbsX v | .ldaAbsX v => ldaAbsX v | .ldxAbsY v => ldxAbsY v | .ldaLongX v => ldaLongX v
  | .cpyImm v => cpyImm v | .cmpDpXInd v => cmpDpXInd v | .rep v => rep v | .cmpSr v => cmpSr v | .cpyDp v => cpyDp v
  | .cmpDp v => cmpDp v | .decDp v => decDp v | .cmpDpIndLong v => cmpDpIndLong v | .iny => iny | .cmpImm v => cmpImm v
  | .dex => dex | .wai => wai | .cpyAbs v => cpyAbs v | .cmpAbs v => cmpAbs v | .decAbs v => decAbs v | .cmpLong v => cmpLong v
  | .bne v => bne v | .cmpDpIndY v => cmpDpIndY v | .cmpDpInd v => cmpDpInd v | .cmpSrIndY v => cmpSrIndY v | .pei v => pei v
  | .cmpDpX v => cmpDpX v | .decDpX v => decDpX v | .cmpDpIndLongY v => cmpDpIndLongY v | .cld => cld | .cmpAbsY v => cmpAbsY v
  | .phx => phx | .stp => stp | .jmlAbsIndLong v => jmlAbsIndLong v | .cmpAbsX v => cmpAbsX v | .decAbsX v => decAbsX v
  | .cmpLongX v => cmpLongX v | .cpxImm v => cpxImm v | .sbcDpXInd v => sbcDpXInd v | .sep v => sep v | .sbcSr v => sbcSr v
  | .cpxDp v => cpxDp v | .sbcDp v => sbcDp v | .incDp v => incDp v | .sbcDpIndLong v => sbcDpIndLong v | .inx => inx
  | .sbcImm v => sbcImm v | .nop => nop | .xba => xba | .cpxAbs v => cpxAbs v | .sbcAbs v => sbcAbs v | .incAbs v => incAbs v
  | .sbcLong v => sbcLong v | .beq v => beq v | .sbcDpIndY v => sbcDpIndY v | .sbcDpInd v => sbcDpInd v
  | .sbcSrIndY v => sbcSrIndY v | .pea v => pea v | .sbcDpX v => sbcDpX v | .incDpX v => incDpX v
  | .sbcDpIndLongY v => sbcDpIndLongY v | .sed => sed | .sbcAbsY v => sbcAbsY v | .plx => plx | .xce => xce
  | .jsrAbsXInd v => jsrAbsXInd v | .sbcAbsX v => sbcAbsX v | .incAbsX v => incAbsX v | .sbcLongX v => sbcLongX v

/-- The operand field a row reads in the operand bytes `b0 b1 b2`, little-endian (30_encoding.md R144). -/
def Row.operand (m x : Width) (b0 b1 b2 : Byte) : Row → Operand
  | .implied _ => .none
  | .op8 _ => .byte b0
  | .op16 _ => .word (mkWord b1 b0)
  | .op24 _ => .long (mkAddr b2 (mkWord b1 b0))
  | .immM _ => .immM (immValue m b0 b1)
  | .immX _ => .immX (immValue x b0 b1)
  | .banks _ => .banks b0 b1

/-- Each cell of the opcode map makes instructions with that cell's opcode and the operand its format reads (30_encoding.md
R145, R146). -/
theorem opcodeRow_build (op : Byte) (m x : Width) (b0 b1 b2 : Byte) :
    ((opcodeRow op).build m x b0 b1 b2).opcode = op ∧
      ((opcodeRow op).build m x b0 b1 b2).operand = (opcodeRow op).operand m x b0 b1 b2 := by
  obtain ⟨k, hk, rfl⟩ : ∃ k < 256, op = BitVec.ofNat 8 k := ⟨op.toNat, op.isLt, by simp⟩
  interval_cases k <;> exact ⟨rfl, rfl⟩

theorem Width.bytes_le_two (w : Width) : w.bytes ≤ 2 := by cases w <;> decide

theorem Row.operandBytes_le_three (m x : Width) (r : Row) : r.operandBytes m x ≤ 3 := by
  cases r with
  | immM _ => exact m.bytes_le_two.trans (by decide)
  | immX _ => exact x.bytes_le_two.trans (by decide)
  | _ => simp [Row.operandBytes]

@[simp] theorem Width.trunc_immValue (w : Width) (b0 b1 : Byte) : w.trunc (immValue w b0 b1) = immValue w b0 b1 := by
  cases w <;> simp [immValue]

/-- An immediate is written with the bytes it was read from (30_encoding.md R144). -/
theorem bytes_immValue (w : Width) (b0 b1 b2 : Byte) :
    [loByte (immValue w b0 b1), hiByte (immValue w b0 b1)].take w.bytes = [b0, b1, b2].take w.bytes := by
  cases w <;> simp [immValue, Width.bytes]

/-- An operand read from bytes fits its encoding. -/
theorem Row.operand_wellFormed (m x : Width) (b0 b1 b2 : Byte) (r : Row) :
    (r.operand m x b0 b1 b2).wellFormed m x = true := by
  cases r <;> simp [Row.operand, Operand.wellFormed]

/-- An operand is written with the bytes it was read from. -/
theorem Row.operand_encode (m x : Width) (b0 b1 b2 : Byte) (r : Row) :
    (r.operand m x b0 b1 b2).encode m x = [b0, b1, b2].take (r.operandBytes m x) := by
  cases r with
  | immM _ => exact bytes_immValue m b0 b1 b2
  | immX _ => exact bytes_immValue x b0 b1 b2
  | _ => simp [Row.operand, Operand.encode, Row.operandBytes]

/-- `decode` looks at three bytes, and takes as many of them as the format has. -/
theorem take_getD_three {t : List Byte} {n : Nat} (h3 : n ≤ 3) (hn : n ≤ t.length) :
    [t.getD 0 0, t.getD 1 0, t.getD 2 0].take n = t.take n := by
  refine List.ext_getElem (by simp; omega) fun k hk _ => ?_
  obtain ⟨hk3, hkt⟩ : k < 3 ∧ k < t.length := by simp at hk; omega
  interval_cases k <;> simp [hkt]

/-- What `decode` accepts: an opcode with all its operand bytes (30_encoding.md R142). -/
theorem decode_cons_eq_ok_iff {m x : Width} {op : Byte} {t rest : List Byte} {i : Instr} :
    decode m x (op :: t) = .ok (i, rest) ↔
      (opcodeRow op).operandBytes m x ≤ t.length ∧ (opcodeRow op).build m x (t.getD 0 0) (t.getD 1 0) (t.getD 2 0) = i ∧
        t.drop ((opcodeRow op).operandBytes m x) = rest := by
  unfold decode
  dsimp only
  split
  · next h => simp [Nat.not_le.mpr h]
  · next h => simp [Nat.not_lt.mp h]

/-- The length table of 30_encoding.md R141 is the opcode byte and the operand bytes of the map's row. -/
theorem expectedLength_eq (m x : Width) (op : Byte) :
    Claims.expectedLength m x op = 1 + (opcodeRow op).operandBytes m x := by
  revert op
  cases m <;> cases x <;> decide

end Sys2Proof

namespace Sys2Proof.Proofs
open Sys2Proof.Machine

/-- Settles O1, constructor by constructor. -/
theorem decodeEncode : Obligations.DecodeEncode := decode_encode

/-- Settles O2: the instruction has the opcode that was read and the operand its row reads, which is written with the operand
bytes that were taken. -/
theorem decodeSound : Obligations.DecodeSound := by
  intro m x bs i rest h
  cases bs with
  | nil => cases h
  | cons op t =>
    obtain ⟨hn, rfl, rfl⟩ := decode_cons_eq_ok_iff.mp h
    obtain ⟨hop, ho⟩ := opcodeRow_build op m x (t.getD 0 0) (t.getD 1 0) (t.getD 2 0)
    constructor
    · rw [Instr.wellFormed, ho, Row.operand_wellFormed]
    · rw [encode, hop, ho, Row.operand_encode, take_getD_three (Row.operandBytes_le_three m x _) hn, List.cons_append,
        List.take_append_drop]

/-- Settles O3: three bytes are enough for every row, and `exec` is total. -/
theorem everyOpcodeRuns : Obligations.EveryOpcodeRuns := by
  refine ⟨fun m x op b1 b2 b3 rest => ?_, fun _ _ => rfl⟩
  have hn : (opcodeRow op).operandBytes m x ≤ (b1 :: b2 :: b3 :: rest).length :=
    (Row.operandBytes_le_three m x _).trans (by simp)
  exact ⟨_, _, decode_cons_eq_ok_iff.mpr ⟨hn, rfl, rfl⟩, (opcodeRow_build op m x b1 b2 b3).1, exec_total _⟩

/-- Settles O4: the bytes taken are the opcode and its row's operand bytes, which `expectedLength_eq` counts. -/
theorem instructionLengths : Obligations.InstructionLengths := by
  constructor
  · intro m x op bs i rest h
    obtain ⟨hn, rfl, rfl⟩ := decode_cons_eq_ok_iff.mp h
    rw [expectedLength_eq, Instr.length, (opcodeRow_build op m x _ _ _).1, List.length_drop]
    exact ⟨by omega, rfl⟩
  · intro s h he
    obtain ⟨hm, hx, _⟩ := h he
    exact ⟨if_pos hm, if_pos hx⟩

/-- Settles O5: `decode` computes each word. -/
theorem sampleWords : Obligations.SampleWords :=
  ⟨rfl, rfl, rfl, rfl, rfl, rfl, rfl, rfl, rfl, rfl, rfl, rfl, rfl, rfl, rfl, rfl, rfl, rfl, rfl, rfl, rfl,
    rfl, rfl, rfl, rfl⟩

end Sys2Proof.Proofs
end

section
/-! The addresses an instruction's operand lies at, and the value read there (40_addressing.md R170 to R194). -/
namespace Sys2Proof.Machine
open Sys2Proof.Claims

theorem toNat_loByte (v : Word) : (loByte v).toNat = v.toNat % 0x100 := BitVec.toNat_setWidth 8 v

theorem toNat_hiByte (v : Word) : (hiByte v).toNat = v.toNat / 0x100 := by
  have := v.isLt
  simp only [hiByte, BitVec.extractLsb'_toNat, Nat.shiftRight_eq_div_pow]
  omega

theorem toNat_mkWord (hi lo : Byte) : (mkWord hi lo).toNat = hi.toNat * 0x100 + lo.toNat := by
  have := lo.isLt
  rw [mkWord, BitVec.toNat_append, ← Nat.shiftLeft_add_eq_or_of_lt this, Nat.shiftLeft_eq]

/-- DL = 0, as a number. -/
theorem loByte_eq_zero_iff (v : Word) : loByte v = 0 ↔ v.toNat % 0x100 = 0 := by
  rw [← toNat_loByte, BitVec.toNat_eq]
  rfl

/-- The condition of the page wrap as a proposition (40_addressing.md R171). -/
theorem dpOffset_eq (cfg : Config) (c : Cpu) (off : Word) :
    dpOffset cfg c off =
      if c.e = true ∧ loByte c.d = 0 ∧ cfg.emuDpPageWrap = true then mkWord (hiByte c.d) (loByte off) else c.d + off := by
  simp [dpOffset, and_assoc]

/-! The address of byte `i` at a locator of each class (40_addressing.md R170). -/
section
variable (s : State) (i : Nat)

theorem State.addrOf_long (base : Addr) : s.addrOf (.long base) i = base + BitVec.ofNat 24 i := rfl

theorem State.addrOf_bank0 (base : Word) : s.addrOf (.bank0 base) i = mkAddr 0 (base + BitVec.ofNat 16 i) := rfl

theorem State.addrOf_dir (off : Word) : s.addrOf (.dir off) i = directAddr s (off + BitVec.ofNat 16 i) :=
  congrArg (mkAddr 0) (dpOffset_eq s.bus.cfg s.cpu _)

theorem State.addrOf_dirN (off : Word) : s.addrOf (.dirN off) i = mkAddr 0 (s.cpu.d + off + BitVec.ofNat 16 i) :=
  congrArg (mkAddr 0) (BitVec.add_assoc _ _ _).symm

end

/-- `Load(loc, w)` of bytes in stores: the latch keeps the last byte read (20_memory.md R97; 40_addressing.md R194). -/
theorem State.load_of_storeByte {s : State} {l : Loc} {lo hi : Byte} (w : Width)
    (h0 : s.bus.storeByte (s.addrOf l 0) = some lo) : (w = .b16 → s.bus.storeByte (s.addrOf l 1) = some hi) →
    s.load w l = { v := match w with | .b8 => zext lo | .b16 => mkWord hi lo,
                   st := latched s (match w with | .b8 => lo | .b16 => hi) } := by
  intro h1
  cases w with
  | b8 => exact State.load8_of_storeByte h0
  | b16 => exact State.load16_of_storeByte h0 (h1 rfl)

/-- A pointer of two bytes, where its addresses select stores. -/
theorem State.load16_of_map {s : State} {l : Loc} {ptr : List Byte}
    (h : [s.addrOf l 0, s.addrOf l 1].map s.bus.storeByte = ptr.map some) :
    (s.load16 l).v = mkWord (ptr.getD 1 0) (ptr.getD 0 0) := by
  obtain ⟨lo, hi, rfl⟩ := List.length_eq_two.mp (by simpa using (congrArg List.length h).symm)
  simp only [List.map, List.cons.injEq, and_true] at h
  obtain ⟨h0, h1⟩ := h
  rw [State.load16_of_storeByte h0 h1]
  rfl

/-- A pointer of three bytes, where its addresses select stores. -/
theorem State.load24_of_map {s : State} {l : Loc} {ptr : List Byte}
    (h : [s.addrOf l 0, s.addrOf l 1, s.addrOf l 2].map s.bus.storeByte = ptr.map some) :
    (s.load24 l).v = mkAddr (ptr.getD 2 0) (mkWord (ptr.getD 1 0) (ptr.getD 0 0)) := by
  obtain ⟨lo, hi, bk, rfl⟩ := List.length_eq_three.mp (by simpa using (congrArg List.length h).symm)
  simp only [List.map, List.cons.injEq, and_true] at h
  obtain ⟨h0, h1, h2⟩ := h
  rw [State.load24_of_storeByte h0 h1 h2]
  rfl

/-- A mode without a pointer reads nothing, and its locator is at the address of its rule. -/
theorem State.ea_of_plainAddr {s : State} {mode : MemMode} {i : Nat} {a : Addr} (h : plainAddr s i mode = some a) :
    (s.ea mode).st = s ∧ s.addrOf (s.ea mode).loc i = a := by
  cases mode with
  | dp _ | dpX _ | dpY _ => exact ⟨rfl, (s.addrOf_dir i _).trans (Option.some.inj h)⟩
  | abs _ | absX _ | absY _ | long _ | longX _ | sr _ => exact ⟨rfl, Option.some.inj h⟩
  | _ => cases h

/-- A mode with a pointer gives the class L locator at the address its pointer's bytes name. -/
theorem State.ea_loc_of_pointedAddr {s : State} {mode : MemMode} {ptr : List Byte} {a : Addr}
    (hp : (pointerAddrs s mode).map s.bus.storeByte = ptr.map some) (h : pointedAddr s ptr mode = some a) :
    (s.ea mode).loc = .long a := by
  have dir {off : Word} (hp : [directAddr s off, directAddr s (off + 1)].map s.bus.storeByte = ptr.map some) :
      (s.load16 (.dir off)).v = mkWord (ptr.getD 1 0) (ptr.getD 0 0) :=
    State.load16_of_map (by simpa [State.addrOf_dir] using hp)
  have dirN {off : Word} (hp : [mkAddr 0 (s.cpu.d + off), mkAddr 0 (s.cpu.d + off + 1),
      mkAddr 0 (s.cpu.d + off + 2)].map s.bus.storeByte = ptr.map some) :
      (s.load24 (.dirN off)).v = mkAddr (ptr.getD 2 0) (mkWord (ptr.getD 1 0) (ptr.getD 0 0)) :=
    State.load24_of_map (by simpa [State.addrOf_dirN] using hp)
  have bank0 {base : Word} (hp : [mkAddr 0 base, mkAddr 0 (base + 1)].map s.bus.storeByte = ptr.map some) :
      (s.load16 (.bank0 base)).v = mkWord (ptr.getD 1 0) (ptr.getD 0 0) :=
    State.load16_of_map (by simpa [State.addrOf_bank0] using hp)
  cases mode with
  | dpInd _ | dpXInd _ | dpIndY _ => cases h; simp only [State.ea, dir hp, zext24]
  | dpIndLong _ | dpIndLongY _ => cases h; simp only [State.ea, dirN hp, zext24]
  | srIndY _ => cases h; simp only [State.ea, bank0 hp, zext24]
  | _ => cases h

/-- A mode has an address of its own or a pointer. -/
theorem plainAddr_isSome_iff (s : State) (i : Nat) (mode : MemMode) :
    (plainAddr s i mode).isSome ↔ pointerAddrs s mode = [] := by
  cases mode <;> simp [plainAddr, pointerAddrs]

end Sys2Proof.Machine

namespace Sys2Proof.Proofs
open Sys2Proof.Machine Sys2Proof.Claims

/-- Settles O33: the bytes of the offset as numbers, and `Addr` of a direct locator in bank 0. -/
theorem directPageOffsets : Obligations.DirectPageOffsets := by
  refine fun cfg c off => ⟨?_, BitVec.toNat_add _ _, fun i => ⟨bankOf_mkAddr _ _, bankOf_mkAddr _ _⟩⟩
  simp only [dpOffset_eq, loByte_eq_zero_iff]
  split
  · rw [toNat_mkWord, toNat_hiByte, toNat_loByte]
  · exact BitVec.toNat_add _ _

/-- Settles O32: the modes without a pointer, those with one, and that each mode is of one kind. -/
theorem effectiveAddresses : Obligations.EffectiveAddresses := by
  refine fun s mode i => ⟨fun a => State.ea_of_plainAddr, fun ptr a hp h => ?_, plainAddr_isSome_iff s i mode⟩
  rw [State.ea_loc_of_pointedAddr hp h, State.addrOf_long]

/-- Settles O31: forming the address reads only, so that the operand's bytes are still in the stores when they are loaded. -/
theorem operandValues : Obligations.OperandValues := by
  refine fun s w => ⟨fun v => by cases w <;> rfl, ?_⟩
  intro mode lo hi e h0 h1
  have hr : s.Reads e.st := s.ea_reads mode
  rw [← hr.storeByte] at h0
  simp only [← hr.storeByte] at h1
  have hload : s.operand w (.mem mode) = _ := State.load_of_storeByte w h0 h1
  rw [hload]
  exact ⟨rfl, rfl, hr.bus, hr.cpu, hr.frame, hr.resetRequest⟩

end Sys2Proof.Proofs
end

section
/-! The frames of memory: which addresses an instruction writes, and that it leaves every other byte of the stores. -/
namespace Sys2Proof.Machine
open Sys2Proof.Claims

/-- From `b` to `b'` the bus is read, and written at the addresses of the list: where none of them is WMDATA or a DMA trigger,
every byte of the stores that they do not select is as before. -/
structure Bus.WritesAt (b : Bus) (as : List Addr) (b' : Bus) : Prop where
  cfg : b'.cfg = b.cfg
  cart : b'.cart = b.cart
  frame : (∀ x ∈ as, (busTarget b.cfg b.cart x).plain = true) → ∀ a, ¬ b.among as a → b'.storeByte a = b.storeByte a

namespace Bus.WritesAt
variable {b b' b'' : Bus} {as as' : List Addr}

theorem refl (b : Bus) : b.WritesAt [] b := ⟨rfl, rfl, fun _ _ _ => rfl⟩

theorem reads (h : b.WritesAt as b') (hr : b'.Reads b'') : b.WritesAt as b'' :=
  ⟨hr.cfg.trans h.cfg, hr.cart.trans h.cart, fun hp a ha => (hr.storeByte a).trans (h.frame hp a ha)⟩

theorem mono (h : b.WritesAt as b') (hs : as ⊆ as') : b.WritesAt as' b' :=
  ⟨h.cfg, h.cart, fun hp a ha => h.frame (fun x hx => hp x (hs hx)) a fun ⟨x, hx, e⟩ => ha ⟨x, hs hx, e⟩⟩

theorem write (h : b.WritesAt as b') (a : Addr) (v : Byte) : b.WritesAt (as ++ [a]) (b'.write a v) := by
  have keeps := b'.write_keeps a v
  refine ⟨keeps.cfg.trans h.cfg, keeps.cart.trans h.cart, fun hp x hx => ?_⟩
  have ha : a ∈ as ++ [a] := List.mem_append_right as (List.mem_singleton_self a)
  have plain : (busTarget b'.cfg b'.cart a).plain = true := by rw [h.cfg, h.cart]; exact hp a ha
  have other : busTarget b'.cfg b'.cart x ≠ busTarget b'.cfg b'.cart a := by
    rw [h.cfg, h.cart]
    exact fun e => hx ⟨a, ha, e.symm⟩
  rw [Bus.storeByte_write_ne plain other]
  exact (h.mono (List.subset_append_left as [a])).frame hp x hx

/-- What an arm of `exec` writes, the state it answers has written. -/
theorem of_next {t u : State} (e : (.next u : Out) = .next t) (h : b.WritesAt as u.bus) : b.WritesAt as t.bus :=
  Host.Outcome.next.inj e ▸ h

end Bus.WritesAt

/-! Read-modify-writes. -/

/-- The function of a read-modify-write on the registers of `c` (43_arithmetic.md R248, R251; 44_logic_shift.md R264 to R269). -/
def modifyFn (op : ModifyOp) (c : Cpu) : Byte → Word → Modified :=
  match op with
  | .inc => incValue c.m
  | .dec => decValue c.m
  | .asl => aslValue c.m
  | .lsr => lsrValue c.m
  | .rol => rolValue c.m
  | .ror => rorValue c.m
  | .tsb => tsbValue c.acc
  | .trb => trbValue c.acc

/-- Every memory form of a read-modify-write is `Modify` at its mode (40_addressing.md R195). -/
theorem exec_of_modifyForm {i : Instr} {op : ModifyOp} {mode : MemMode} (h : modifyForm i = some (op, mode)) (s : State) :
    exec i s = .next (s.modifyAt s.cpu.m mode (modifyFn op s.cpu)) := by
  cases i with
  | tsbDp _ | tsbAbs _ | trbDp _ | trbAbs _ | aslDp _ | aslAbs _ | aslDpX _ | aslAbsX _ | rolDp _ | rolAbs _ | rolDpX _
  | rolAbsX _ | lsrDp _ | lsrAbs _ | lsrDpX _ | lsrAbsX _ | rorDp _ | rorAbs _ | rorDpX _ | rorAbsX _ | decDp _ | decAbs _
  | decDpX _ | decAbsX _ | incDp _ | incAbs _ | incDpX _ | incAbsX _ => cases h; rfl
  | _ => cases h

/-- P moves no operand. -/
theorem operandAddrs_withP (s : State) (p : Byte) (w : Width) (l : Loc) :
    operandAddrs (s.withCpu { s.cpu with p := p }) w l = operandAddrs s w l := by
  cases w <;> cases l <;> rfl

/-- Reads move no operand. -/
theorem operandAddrs_of_reads {s t : State} (h : s.Reads t) (w : Width) (l : Loc) :
    operandAddrs t w l = operandAddrs s w l := by
  simp only [operandAddrs, h.addrOf]

theorem State.storeBack_writesAt {b : Bus} {s : State} (h : b.WritesAt [] s.bus) (w : Width) (l : Loc) (v : Word) :
    b.WritesAt (operandAddrs s w l) (s.storeBack w l v).bus := by
  cases w with
  | b8 => exact h.write _ _
  | b16 => exact ((h.write _ _).write _ _).mono (by simp [operandAddrs])

/-- `Modify` reads its operand and writes at the addresses it read (40_addressing.md R195). -/
theorem State.modify_writesAt {b : Bus} {s : State} (h : b.WritesAt [] s.bus) (w : Width) (l : Loc)
    (f : Byte → Word → Modified) : b.WritesAt (operandAddrs s w l) (s.modify w l f).bus := by
  have hload := s.load_reads w l
  rw [State.modify, ← operandAddrs_of_reads hload, ← operandAddrs_withP _ (f (s.load w l).st.cpu.p (s.load w l).v).p]
  apply State.storeBack_writesAt
  exact h.reads hload.bus

theorem State.modifyAt_writesAt (s : State) (w : Width) (mode : MemMode) (f : Byte → Word → Modified) :
    s.bus.WritesAt (operandAddrs (s.ea mode).st w (s.ea mode).loc) (s.modifyAt w mode f).bus :=
  State.modify_writesAt ((Bus.WritesAt.refl s.bus).reads (s.ea_reads mode).bus) w _ f

/-! Pushes. -/

/-- The addresses of the next `k` pushes (40_addressing.md R196). -/
def stackAddrs (nw : Bool) (c : Cpu) (k : Nat) : List Addr := (List.range k).map fun j => mkAddr 0 (stackDown nw c j)

theorem stackAddrs_succ (nw : Bool) (c : Cpu) (k : Nat) :
    stackAddrs nw c (k + 1) = stackAddrs nw c k ++ [mkAddr 0 (stackDown nw c k)] := by
  simp [stackAddrs, List.range_succ]

theorem stackDown_zero (nw : Bool) (c : Cpu) : stackDown nw c 0 = c.s := by simp [stackDown]

/-- One push further down (40_addressing.md R196). -/
theorem Cpu.pushed_s_of_stackDown {nw : Bool} {c d : Cpu} {k : Nat} (hs : d.s = stackDown nw c k) (he : d.e = c.e) :
    (d.pushed nw).s = stackDown nw c (k + 1) := by
  rw [Cpu.pushed_s, he, hs, stackDown, stackDown]
  split <;> simp [BitVec.ofNat_add, BitVec.sub_sub]

/-- From `s` to `t` the bus is read and `k` bytes are pushed. -/
structure State.Pushes (nw : Bool) (k : Nat) (s t : State) : Prop where
  bus : s.bus.WritesAt (stackAddrs nw s.cpu k) t.bus
  stack : t.cpu.s = stackDown nw s.cpu k
  mode : t.cpu.e = s.cpu.e

namespace State.Pushes
variable {nw : Bool} {k : Nat} {s t u : State}

theorem refl (nw : Bool) (s : State) : State.Pushes nw 0 s s := ⟨.refl _, (stackDown_zero nw s.cpu).symm, rfl⟩

theorem reads (h : State.Pushes nw k s t) (hr : t.bus.Reads u.bus) (hs : u.cpu.s = t.cpu.s) (he : u.cpu.e = t.cpu.e) :
    State.Pushes nw k s u := ⟨h.bus.reads hr, hs.trans h.stack, he.trans h.mode⟩

theorem fetch8 (h : State.Pushes nw k s t) : State.Pushes nw k s t.fetch8.st := h.reads (t.readByte_reads _).bus rfl rfl

theorem push8 (h : State.Pushes nw k s t) (v : Byte) : State.Pushes nw (k + 1) s (t.push8 nw v) where
  bus := by
    rw [stackAddrs_succ, ← h.stack]
    exact h.bus.write _ v
  stack := Cpu.pushed_s_of_stackDown h.stack h.mode
  mode := (Cpu.pushed_e _ _).trans h.mode

theorem push16 (h : State.Pushes nw k s t) (v : Word) : State.Pushes nw (k + 2) s (t.push16 nw v) :=
  (h.push8 (hiByte v)).push8 (loByte v)

end State.Pushes

@[simp] theorem State.endNoWrap_bus (s : State) : s.endNoWrap.bus = s.bus := by
  unfold State.endNoWrap
  split <;> rfl

theorem State.pushWidth_writesAt (s : State) (narrow : Bool) (v : Word) :
    s.bus.WritesAt (stackAddrs false s.cpu (if narrow then 1 else 2)) (s.pushWidth (if narrow then .b8 else .b16) v).bus := by
  cases narrow with
  | true => exact ((State.Pushes.refl false s).push8 (loByte v)).bus
  | false => exact ((State.Pushes.refl false s).push16 v).bus

theorem State.pushNew_writesAt (s : State) (v : Word) : s.bus.WritesAt (stackAddrs s.noWrap s.cpu 2) (s.pushNew v).bus := by
  rw [State.pushNew, State.endNoWrap_bus]
  exact ((State.Pushes.refl s.noWrap s).push16 v).bus

/-- PEI reads its word first (46_stack.md R325). -/
theorem State.pushIndirect_writesAt (s : State) (dp : Byte) :
    s.bus.WritesAt (stackAddrs s.noWrap s.cpu 2) (s.pushIndirect dp).bus := by
  have hr := s.load16_reads (.dirN (zext dp))
  rw [State.pushIndirect, State.pushNew, State.endNoWrap_bus, hr.keeps.noWrap]
  exact (((State.Pushes.refl s.noWrap s).reads hr.bus rfl rfl).push16 _).bus

/-- JSR (addr,X) pushes, and then reads (45_control.md R293). -/
theorem State.callIndexed_writesAt (s : State) (lo : Byte) :
    s.bus.WritesAt (stackAddrs s.noWrap s.cpu 2) (s.callIndexed lo).bus := by
  rw [State.callIndexed, State.endNoWrap_bus]
  exact ((State.Pushes.refl s.noWrap s).push16 s.cpu.pc).fetch8.bus.reads (State.load16_reads _ _).bus

/-- JSL pushes PB, fetches, and pushes PC (45_control.md R294). -/
theorem State.callLong_writesAt (s : State) (off : Word) :
    s.bus.WritesAt (stackAddrs s.noWrap s.cpu 3) (s.callLong off).bus := by
  rw [State.callLong, State.endNoWrap_bus]
  exact (((State.Pushes.refl s.noWrap s).push8 s.cpu.pb).fetch8.push16 _).bus

/-- Every push and call writes at its stack addresses. -/
theorem exec_push_writesAt {i : Instr} {s t : State} (hi : i.mnemonic ∈ pushMnemonics ∨ i.mnemonic = "JSR" ∨ i.mnemonic = "JSL")
    (h : exec i s = .next t) : s.bus.WritesAt (pushAddrs i s) t.bus := by
  have hm : (["JSR", "JSL"] ++ pushMnemonics).contains i.mnemonic = true :=
    List.contains_iff_mem.mpr (by simpa [or_assoc] using hi.symm)
  cases i with
  | pha => exact .of_next h (s.pushWidth_writesAt (fM s) s.cpu.a)
  | phx => exact .of_next h (s.pushWidth_writesAt (fX s) s.cpu.x)
  | phy => exact .of_next h (s.pushWidth_writesAt (fX s) s.cpu.y)
  | php | phb | phk => exact .of_next h ((State.Pushes.refl false s).push8 _).bus
  | phd | pea _ | per _ => exact .of_next h (s.pushNew_writesAt _)
  | pei _ => exact .of_next h (s.pushIndirect_writesAt _)
  | jsrAbs _ => exact .of_next h ((State.Pushes.refl false s).push16 (s.cpu.pc - 1)).bus
  | jsrAbsXInd _ => exact .of_next h (s.callIndexed_writesAt _)
  | jsl _ => exact .of_next h (s.callLong_writesAt _)
  | _ => exact absurd hm Bool.false_ne_true

/-! Instructions that store nothing. -/

theorem State.pull8_busReads (s : State) (nw : Bool) : s.bus.Reads (s.pull8 nw).st.bus := s.bus.read_reads _

theorem State.pull16_busReads (s : State) (nw : Bool) : s.bus.Reads (s.pull16 nw).st.bus :=
  (s.pull8_busReads nw).trans (State.pull8_busReads _ nw)

theorem State.pull24_busReads (s : State) (nw : Bool) : s.bus.Reads (s.pull24 nw).st.bus :=
  (s.pull16_busReads nw).trans (State.pull8_busReads _ nw)

theorem State.pullWidth_busReads (s : State) (w : Width) : s.bus.Reads (s.pullWidth w).st.bus := by
  cases w with
  | b8 => exact s.pull8_busReads false
  | b16 => exact s.pull16_busReads false

theorem State.pullDirect_busReads (s : State) : s.bus.Reads s.pullDirect.bus := by
  rw [State.pullDirect, State.endNoWrap_bus]
  exact s.pull16_busReads s.noWrap

theorem State.returnLong_busReads (s : State) : s.bus.Reads s.returnLong.bus := by
  rw [State.returnLong, State.endNoWrap_bus]
  exact s.pull24_busReads s.noWrap

theorem State.returnFromInterrupt_busReads (s : State) : s.bus.Reads s.returnFromInterrupt.bus := by
  have h := (s.pull8_busReads false).trans (s.pullP.pull16_busReads false)
  unfold State.returnFromInterrupt
  dsimp only
  split
  · exact h
  · exact h.trans (State.pull8_busReads _ false)

@[simp] theorem State.branch_bus (s : State) (taken : Bool) (rel : Byte) : (s.branch taken rel).bus = s.bus := by
  unfold State.branch
  split <;> rfl

/-- What an instruction does to the bus, by its kind in the lists of the statements. -/
structure BusFrame (i : Instr) (s t : State) : Prop where
  registers : registersOnly i = true → t.bus = s.bus
  reads : storesToMemory i = false → s.bus.Reads t.bus

namespace BusFrame
variable {i : Instr} {s t u : State} (h : (.next u : Out) = .next t)
include h

/-- An arm that works on registers. -/
theorem of_registers (hu : u.bus = s.bus) : BusFrame i s t := by
  obtain rfl := Host.Outcome.next.inj h
  exact ⟨fun _ => hu, fun _ => hu ▸ .refl _⟩

/-- An arm that reads. -/
theorem of_reads (hi : registersOnly i = false) (hu : s.bus.Reads u.bus) : BusFrame i s t := by
  obtain rfl := Host.Outcome.next.inj h
  exact ⟨fun hr => absurd (hi.symm.trans hr) Bool.false_ne_true, fun _ => hu⟩

end BusFrame

/-- A storing instruction is of neither kind. -/
theorem BusFrame.of_stores {i : Instr} (hi : registersOnly i = false) (hs : storesToMemory i = true) (s t : State) :
    BusFrame i s t :=
  ⟨fun hr => absurd (hi.symm.trans hr) Bool.false_ne_true, fun hn => absurd (hn.symm.trans hs) Bool.false_ne_true⟩

/-- Every instruction works on registers, reads, or stores. -/
theorem exec_busFrame {i : Instr} {s t : State} (h : exec i s = .next t) : BusFrame i s t := by
  cases i with
  | bpl _ | bmi _ | bvc _ | bvs _ | bra _ | bcc _ | bcs _ | bne _ | beq _ => exact .of_registers h (s.branch_bus _ _)
  | incAcc | decAcc | aslAcc | lsrAcc | rolAcc | rorAcc | tax | tsx | tyx | dex | inx | dey | txy | tay | iny | txa | tya | tsc
  | tdc | xba | tcd | tcs | txs | clc | sec | cli | sei | clv | cld | sed | rep _ | sep _ | xce | wdm _ | nop | brl _ | wai
  | stp => exact .of_registers h rfl
  | ldaDpXInd _ | ldaSr _ | ldaDp _ | ldaDpIndLong _ | ldaImm _ | ldaAbs _ | ldaLong _ | ldaDpIndY _ | ldaDpInd _
  | ldaSrIndY _ | ldaDpX _ | ldaDpIndLongY _ | ldaAbsY _ | ldaAbsX _ | ldaLongX _ | ldxImm _ | ldxDp _ | ldxAbs _ | ldxDpY _
  | ldxAbsY _ | ldyImm _ | ldyDp _ | ldyAbs _ | ldyDpX _ | ldyAbsX _ | adcDpXInd _ | adcSr _ | adcDp _ | adcDpIndLong _
  | adcImm _ | adcAbs _ | adcLong _ | adcDpIndY _ | adcDpInd _ | adcSrIndY _ | adcDpX _ | adcDpIndLongY _ | adcAbsY _
  | adcAbsX _ | adcLongX _ | sbcDpXInd _ | sbcSr _ | sbcDp _ | sbcDpIndLong _ | sbcImm _ | sbcAbs _ | sbcLong _ | sbcDpIndY _
  | sbcDpInd _ | sbcSrIndY _ | sbcDpX _ | sbcDpIndLongY _ | sbcAbsY _ | sbcAbsX _ | sbcLongX _ | cpyImm _ | cpyDp _ | cpyAbs _
  | cmpDpXInd _ | cmpSr _ | cmpDp _ | cmpDpIndLong _ | cmpImm _ | cmpAbs _ | cmpLong _ | cmpDpIndY _ | cmpDpInd _
  | cmpSrIndY _ | cmpDpX _ | cmpDpIndLongY _ | cmpAbsY _ | cmpAbsX _ | cmpLongX _ | cpxImm _ | cpxDp _ | cpxAbs _
  | oraDpXInd _ | oraSr _ | oraDp _ | oraDpIndLong _ | oraImm _ | oraAbs _ | oraLong _ | oraDpIndY _ | oraDpInd _
  | oraSrIndY _ | oraDpX _ | oraDpIndLongY _ | oraAbsY _ | oraAbsX _ | oraLongX _ | andDpXInd _ | andSr _ | andDp _
  | andDpIndLong _ | andImm _ | andAbs _ | andLong _ | andDpIndY _ | andDpInd _ | andSrIndY _ | andDpX _ | andDpIndLongY _
  | andAbsY _ | andAbsX _ | andLongX _ | eorDpXInd _ | eorSr _ | eorDp _ | eorDpIndLong _ | eorImm _ | eorAbs _ | eorLong _
  | eorDpIndY _ | eorDpInd _ | eorSrIndY _ | eorDpX _ | eorDpIndLongY _ | eorAbsY _ | eorAbsX _ | eorLongX _ | bitDp _
  | bitAbs _ | bitDpX _ | bitAbsX _ | bitImm _ => exact .of_reads h rfl (s.operand_reads _ _).bus
  | jmpAbs _ | jmlLong _ => exact .of_reads h rfl (.refl s.bus)
  | jmpAbsInd _ | jmpAbsXInd _ => exact .of_reads h rfl (s.load16_reads _).bus
  | jmlAbsIndLong _ => exact .of_reads h rfl (s.load24_reads _).bus
  | rts => exact .of_reads h rfl (s.pull16_busReads false)
  | rtl => exact .of_reads h rfl s.returnLong_busReads
  | rti => exact .of_reads h rfl s.returnFromInterrupt_busReads
  | pla | plx | ply => exact .of_reads h rfl (s.pullWidth_busReads _)
  | plp | plb => exact .of_reads h rfl (s.pull8_busReads false)
  | pld => exact .of_reads h rfl s.pullDirect_busReads
  | _ => exact .of_stores rfl rfl s t

end Sys2Proof.Machine

namespace Sys2Proof.Proofs
open Sys2Proof.Machine Sys2Proof.Claims

/-- Settles O25: `exec_busFrame`, and that reads change no byte of the stores. -/
theorem nonStoringKeepMemory : Obligations.NonStoringKeepMemory := fun _ _ _ h =>
  let frame := exec_busFrame h
  ⟨frame.registers, fun hs => ⟨frame.reads hs, (frame.reads hs).storeByte⟩⟩

/-- Settles O28: the instruction is `Modify` at its mode, which writes at its operand's addresses. -/
theorem modifyFrame : Obligations.ModifyFrame := by
  intro i op mode s t hi h
  rw [exec_of_modifyForm hi s] at h
  exact (Bus.WritesAt.of_next h (s.modifyAt_writesAt _ mode _)).frame

/-- Settles O29: a push or call writes at its stack addresses. -/
theorem pushFrame : Obligations.PushFrame := fun _ _ _ hi h => (exec_push_writesAt hi h).frame

end Sys2Proof.Proofs
end

section
/-! Loads and stores: what each form computes, and which bytes of the stores a store writes (41_load_store.md R200 to R206). -/
namespace Sys2Proof.Machine
open Sys2Proof.Claims

/-! Values at a width and flags: the statements' functions are the model's (00_scope.md R11, R13). -/

theorem low_eq_trunc (w : Width) (v : Word) : low w v = w.trunc v := by cases w <;> rfl

theorem written_eq_merge (w : Width) (old new : Word) : written w old new = w.merge old new := by cases w <;> rfl

/-- A flag is written by clearing its bit and setting it if so. -/
theorem withFlag_eq_clear_or (p : Byte) (f : Flag) (b : Bool) :
    withFlag p f b = p &&& ~~~f.mask ||| if b then f.mask else 0 := by
  cases b with
  | false => exact (BitVec.or_zero ..).symm
  | true =>
    change p ||| f.mask = p &&& ~~~f.mask ||| f.mask
    ext k hk
    simp only [BitVec.getElem_or, BitVec.getElem_and, BitVec.getElem_not]
    cases f.mask[k] <;> simp

theorem putN_eq_withFlag (p : Byte) (b : Bool) : putN p b = withFlag p .n b := (withFlag_eq_clear_or p .n b).symm

theorem putZ_eq_withFlag (p : Byte) (b : Bool) : putZ p b = withFlag p .z b := (withFlag_eq_clear_or p .z b).symm

theorem top_eq_msb (w : Width) (v : Word) : top w v = w.msb v := by cases w <;> rfl

theorem isZero_eq (w : Width) (v : Word) : isZero w v = (w.trunc v == 0) := by
  cases w with
  | b16 => rfl
  | b8 =>
    have h : loByte v = 0 ↔ zext (loByte v) = 0 :=
      ⟨fun h => h ▸ rfl, fun h => (loByte_zext (loByte v)).symm.trans (h ▸ loByte_zero)⟩
    exact decide_eq_decide.mpr h

theorem nz_eq_setNZ (p : Byte) (w : Width) (v : Word) : nz p w v = setNZ w v p := by
  rw [nz, putZ_eq_withFlag, putN_eq_withFlag, top_eq_msb, isZero_eq, setNZ]

/-! The reading instructions, the loads among them. -/

/-- The operation of a reading instruction (41_load_store.md; 43_arithmetic.md; 44_logic_shift.md). -/
def State.readOp (op : ReadOp) (mode : Mode) (s : State) : State :=
  match op, mode with
  | .lda, mode => s.lda mode
  | .ldx, mode => s.ldx mode
  | .ldy, mode => s.ldy mode
  | .adc, mode => s.adc mode
  | .sbc, mode => s.sbc mode
  | .cmp, mode => s.cmp mode
  | .cpx, mode => s.cpx mode
  | .cpy, mode => s.cpy mode
  | .and, mode => s.and mode
  | .ora, mode => s.ora mode
  | .eor, mode => s.eor mode
  | .bit, .mem mm => s.bit mm
  | .bit, .imm v => s.bitImm v

/-- Every form of a reading instruction is its operation at its mode. -/
theorem exec_of_readForm {i : Instr} {op : ReadOp} {mode : Mode} (h : readForm i = some (op, mode)) (s : State) :
    exec i s = .next (s.readOp op mode) := by
  cases i with
  | ldaDpXInd _ | ldaSr _ | ldaDp _ | ldaDpIndLong _ | ldaImm _ | ldaAbs _ | ldaLong _ | ldaDpIndY _ | ldaDpInd _
  | ldaSrIndY _ | ldaDpX _ | ldaDpIndLongY _ | ldaAbsY _ | ldaAbsX _ | ldaLongX _ | ldxImm _ | ldxDp _ | ldxAbs _ | ldxDpY _
  | ldxAbsY _ | ldyImm _ | ldyDp _ | ldyAbs _ | ldyDpX _ | ldyAbsX _ | adcDpXInd _ | adcSr _ | adcDp _ | adcDpIndLong _
  | adcImm _ | adcAbs _ | adcLong _ | adcDpIndY _ | adcDpInd _ | adcSrIndY _ | adcDpX _ | adcDpIndLongY _ | adcAbsY _
  | adcAbsX _ | adcLongX _ | sbcDpXInd _ | sbcSr _ | sbcDp _ | sbcDpIndLong _ | sbcImm _ | sbcAbs _ | sbcLong _ | sbcDpIndY _
  | sbcDpInd _ | sbcSrIndY _ | sbcDpX _ | sbcDpIndLongY _ | sbcAbsY _ | sbcAbsX _ | sbcLongX _ | cpyImm _ | cpyDp _ | cpyAbs _
  | cmpDpXInd _ | cmpSr _ | cmpDp _ | cmpDpIndLong _ | cmpImm _ | cmpAbs _ | cmpLong _ | cmpDpIndY _ | cmpDpInd _
  | cmpSrIndY _ | cmpDpX _ | cmpDpIndLongY _ | cmpAbsY _ | cmpAbsX _ | cmpLongX _ | cpxImm _ | cpxDp _ | cpxAbs _
  | oraDpXInd _ | oraSr _ | oraDp _ | oraDpIndLong _ | oraImm _ | oraAbs _ | oraLong _ | oraDpIndY _ | oraDpInd _
  | oraSrIndY _ | oraDpX _ | oraDpIndLongY _ | oraAbsY _ | oraAbsX _ | oraLongX _ | andDpXInd _ | andSr _ | andDp _
  | andDpIndLong _ | andImm _ | andAbs _ | andLong _ | andDpIndY _ | andDpInd _ | andSrIndY _ | andDpX _ | andDpIndLongY _
  | andAbsY _ | andAbsX _ | andLongX _ | eorDpXInd _ | eorSr _ | eorDp _ | eorDpIndLong _ | eorImm _ | eorAbs _ | eorLong _
  | eorDpIndY _ | eorDpInd _ | eorSrIndY _ | eorDpX _ | eorDpIndLongY _ | eorAbsY _ | eorAbsX _ | eorLongX _ | bitDp _
  | bitAbs _ | bitDpX _ | bitAbsX _ | bitImm _ => cases h; rfl
  | _ => cases h

/-! Stores. -/

/-- Every form of a store is `Store` of its register at its mode (40_addressing.md R194). -/
theorem exec_of_storeForm {i : Instr} {op : StoreOp} {mode : MemMode} (h : storeForm i = some (op, mode)) (s : State) :
    exec i s = .next (s.storeTo (storeWidth op s) mode (stored op s)) := by
  cases i with
  | staDpXInd _ | staSr _ | staDp _ | staDpIndLong _ | staAbs _ | staLong _ | staDpIndY _ | staDpInd _ | staSrIndY _ | staDpX _
  | staDpIndLongY _ | staAbsY _ | staAbsX _ | staLongX _ | stxDp _ | stxAbs _ | stxDpY _ | styDp _ | styAbs _ | styDpX _ =>
    cases h
    rw [stored, low_eq_trunc]
    rfl
  | stzDp _ | stzDpX _ | stzAbs _ | stzAbsX _ => cases h; rfl
  | _ => cases h

theorem storeAddrs_b8 (s : State) (l : Loc) : storeAddrs s .b8 l = [s.addrOf l 0] := by
  simp [storeAddrs, operandAddrs]

/-- The two readings of a 16-bit store at WMDATA (log 27). -/
theorem storeAddrs_b16 (s : State) (l : Loc) : storeAddrs s .b16 l = [s.addrOf l 0, s.secondStoreAddr l] := by
  simp only [storeAddrs, operandAddrs, State.secondStoreAddr, Bool.and_eq_true, beq_iff_eq, true_and]
  split <;> rfl

theorem storeAddrs_length (s : State) (w : Width) (l : Loc) : (storeAddrs s w l).length = w.bytes := by
  cases w with
  | b8 => rw [storeAddrs_b8]; rfl
  | b16 => rw [storeAddrs_b16]; rfl

/-- `Store` writes the value's bytes at the store's addresses, and nothing else (40_addressing.md R194). -/
theorem State.store_eq (s : State) (w : Width) (l : Loc) (v : Word) :
    s.store w l v = s.withBus (storeBytes s.bus (storeAddrs s w l) v) := by
  cases w with
  | b8 => rw [storeAddrs_b8]; rfl
  | b16 => rw [storeAddrs_b16]; rfl

theorem State.storeTo_eq (s : State) (w : Width) (mode : MemMode) (v : Word) :
    s.storeTo w mode v = s.withBus (storeBytes (s.ea mode).st.bus (storeAddrs (s.ea mode).st w (s.ea mode).loc) v) := by
  rw [State.storeTo, State.store_eq]
  exact (congrArg (State.withBus · _) (s.ea_reads mode).1).trans (State.withBus_withBus ..)

namespace Bus
variable {b : Bus} (v : Word)

/-- The bytes are written at the addresses of the list. -/
theorem WritesAt.storeBytes {b' : Bus} {as : List Addr} (h : b.WritesAt [] b') : b.WritesAt as (storeBytes b' as v) := by
  match as with
  | [a] => exact h.write a _
  | [a, a'] => exact (h.write a _).write a' _
  | [] => exact h
  | _ :: _ :: _ :: _ => exact h.mono (List.nil_subset _)

/-- The last byte written is read back, whether or not the first was written to the same byte. -/
theorem storeByte_storeBytes_getLast (w : b.StoresWf) {as : List Addr} {a : Addr} (hlen : as.length ≤ 2)
    (hlast : as.getLast? = some a) (hram : (busTarget b.cfg b.cart a).isRam = true) :
    (storeBytes b as v).storeByte a = some (if as.length = 1 then loByte v else hiByte v) := by
  match as with
  | [x] =>
    obtain rfl := Option.some.inj hlast
    exact storeByte_write_self w hram _
  | [x, y] =>
    obtain rfl := Option.some.inj hlast
    have hk := b.write_keeps x (loByte v)
    exact storeByte_write_self (hk.storesWf w) (by rwa [hk.cfg, hk.cart]) _
  | _ :: _ :: _ :: _ => exact absurd hlen (by simp)

/-- The first of two bytes is read back where the second goes to another target, a plain one. -/
theorem storeByte_storeBytes_fst (w : b.StoresWf) {a a' : Addr} (hplain : (busTarget b.cfg b.cart a').plain = true)
    (hne : busTarget b.cfg b.cart a ≠ busTarget b.cfg b.cart a') (hram : (busTarget b.cfg b.cart a).isRam = true) :
    (storeBytes b [a, a'] v).storeByte a = some (loByte v) := by
  have hk := b.write_keeps a (loByte v)
  calc ((b.write a (loByte v)).write a' (hiByte v)).storeByte a
      = (b.write a (loByte v)).storeByte a := storeByte_write_ne (by rwa [hk.cfg, hk.cart]) (by rwa [hk.cfg, hk.cart]) _
    _ = some (loByte v) := storeByte_write_self w hram _

end Bus
end Sys2Proof.Machine

namespace Sys2Proof.Proofs
open Sys2Proof.Machine Sys2Proof.Claims

/-- Settles O27: the bus the store leaves is `storeBytes` of the bus after the address is formed, which reads only. -/
theorem storeFrame : Obligations.StoreFrame := by
  intro i op mode s t hi h e as hplain
  rw [exec_of_storeForm hi s, State.storeTo_eq] at h
  obtain rfl := Host.Outcome.next.inj h
  have hr : s.bus.Reads e.st.bus := (s.ea_reads mode).bus
  refine ⟨(((Bus.WritesAt.refl s.bus).reads hr).storeBytes _).frame hplain, fun w a hlast hram => ?last,
    fun w a a' has hne hram => ?first⟩
  case last =>
    have hlen : as.length ≤ 2 := (storeAddrs_length ..).trans_le (Width.bytes_le_two _)
    exact Bus.storeByte_storeBytes_getLast _ (hr.storesWf w) hlen hlast (by rwa [hr.busTarget])
  case first =>
    change (storeBytes e.st.bus as (stored op s)).storeByte a = _
    rw [has] at hplain ⊢
    exact Bus.storeByte_storeBytes_fst _ (hr.storesWf w) (by rw [hr.busTarget]; exact hplain a' (by simp))
      (by rwa [hr.busTarget, hr.busTarget]) (by rwa [hr.busTarget])

/-- Settles O26: every form is `Store` at its mode, which writes the bytes at the store's addresses. -/
theorem storesWriteTheirBytes : Obligations.StoresWriteTheirBytes := fun _ _ mode s hi =>
  (exec_of_storeForm hi s).trans (congrArg Host.Outcome.next (s.storeTo_eq _ mode _))

/-- Settles O30: every form is its load at its mode, and reading the operand keeps the registers. -/
theorem loadsWriteTheirRegister : Obligations.LoadsWriteTheirRegister := by
  intro i mode s
  simp only [written_eq_merge, nz_eq_setNZ]
  refine ⟨fun hi => ?lda, fun hi => ?ldx, fun hi => ?ldy⟩
  all_goals
    rw [exec_of_readForm hi s]
    simp only [State.readOp, State.lda, State.ldx, State.ldy, State.operand_cpu]
    rfl

end Sys2Proof.Proofs
end

section
/-! Transfers between registers and the steps of the index registers (42_transfer.md R220 to R232, 43_arithmetic.md R249 to R253). -/
namespace Sys2Proof.Machine
open Sys2Proof.Claims

/-! A value moved into a register at its width, with N and Z from it, in the statements' words. -/
section
variable (s : State) (v : Word)

theorem Cpu.setNZ_eq_nz (c : Cpu) (w : Width) : c.setNZ w v = { c with p := nz c.p w v } := by
  rw [nz_eq_setNZ, Cpu.setNZ]

theorem State.setAcc_setNZ_eq : (s.cpu.setAcc v).setNZ s.cpu.m v =
    { s.cpu with a := written (mWidth s) s.cpu.a v, p := nz s.cpu.p (mWidth s) v } := by
  rw [Cpu.setNZ_eq_nz, written_eq_merge]
  rfl

theorem State.setX_setNZ_eq : (s.cpu.setX v).setNZ s.cpu.xw v =
    { s.cpu with x := written (xWidth s) s.cpu.x v, p := nz s.cpu.p (xWidth s) v } := by
  rw [Cpu.setNZ_eq_nz, written_eq_merge]
  rfl

theorem State.setY_setNZ_eq : (s.cpu.setY v).setNZ s.cpu.xw v =
    { s.cpu with y := written (xWidth s) s.cpu.y v, p := nz s.cpu.p (xWidth s) v } := by
  rw [Cpu.setNZ_eq_nz, written_eq_merge]
  rfl

/-- TXS and TCS write S: emulation mode keeps SH (42_transfer.md R227, R228). -/
theorem Cpu.setS_eq (c : Cpu) : (if c.e then c.setSL (loByte v) else { c with s := v }) =
    { c with s := if c.e then mkWord (hiByte c.s) (loByte v) else v } := by
  split <;> rfl

end
end Sys2Proof.Machine

namespace Sys2Proof.Proofs
open Sys2Proof.Machine Sys2Proof.Claims

/-- Settles O34: each instruction is a register write of one of the kinds above, and leaves the rest of the state. -/
theorem transfersAndIndexSteps : Obligations.TransfersAndIndexSteps := by
  intro s
  have ofCpu {c c' : Cpu} (h : c = c') : (.next (s.withCpu c) : Out) = .next { s with cpu := c' } := h ▸ rfl
  exact ⟨ofCpu (s.setX_setNZ_eq _), ofCpu (s.setY_setNZ_eq _), -- TAX, TAY
    ofCpu (s.setAcc_setNZ_eq _), ofCpu (s.setAcc_setNZ_eq _), -- TXA, TYA
    ofCpu (s.setY_setNZ_eq _), ofCpu (s.setX_setNZ_eq _), -- TXY, TYX
    ofCpu (s.setX_setNZ_eq _), ofCpu (Cpu.setS_eq _ s.cpu), ofCpu (Cpu.setS_eq _ s.cpu), -- TSX, TXS, TCS
    ofCpu (Cpu.setNZ_eq_nz ..), ofCpu (Cpu.setNZ_eq_nz ..), ofCpu (Cpu.setNZ_eq_nz ..), -- TSC, TCD, TDC
    ofCpu (Cpu.setNZ_eq_nz ..), -- XBA
    ofCpu (s.setX_setNZ_eq _), ofCpu (s.setY_setNZ_eq _), -- INX, INY
    ofCpu (s.setX_setNZ_eq _), ofCpu (s.setY_setNZ_eq _)⟩ -- DEX, DEY

end Sys2Proof.Proofs
end

section
/-! Arithmetic and read-modify-writes: words of a width as numbers, and what ADC, SBC, the compares, INC, DEC, the shifts and
rotates, TSB and TRB write (43_arithmetic.md R242 to R251; 44_logic_shift.md R264 to R269). -/
namespace Sys2Proof

/-! Words of a width as numbers (00_scope.md R10). -/

theorem Width.toNat_trunc (w : Width) (v : Word) : (w.trunc v).toNat = v.toNat % 2 ^ w.bits := by
  cases w with
  | b8 => rw [Width.trunc_b8, zext, loByte, BitVec.toNat_setWidth, BitVec.toNat_setWidth, Width.bits]; omega
  | b16 => exact (Nat.mod_eq_of_lt v.isLt).symm

theorem Width.bits_le (w : Width) : w.bits ≤ 16 := by cases w <;> decide

theorem Width.mod_word_mod (w : Width) (n : Nat) : n % 2 ^ 16 % 2 ^ w.bits = n % 2 ^ w.bits :=
  Nat.mod_mod_of_dvd n (pow_dvd_pow 2 w.bits_le)

theorem Width.mod_mod_word (w : Width) (n : Nat) : n % 2 ^ w.bits % 2 ^ 16 = n % 2 ^ w.bits :=
  Nat.mod_eq_of_lt ((Nat.mod_lt n (by positivity)).trans_le (Nat.pow_le_pow_right (by decide) w.bits_le))

theorem Width.trunc_eq_self_iff (w : Width) (v : Word) : w.trunc v = v ↔ v.toNat < 2 ^ w.bits := by
  rw [BitVec.toNat_eq, w.toNat_trunc, Nat.mod_eq_iff_lt (by positivity)]

/-- Bit w-1 says whether the w-bit value lies in the upper half. -/
theorem Width.msb_eq_decide (w : Width) (v : Word) : w.msb v = decide (2 ^ (w.bits - 1) ≤ v.toNat % 2 ^ w.bits) := by
  rw [Width.msb, BitVec.getLsbD, Nat.testBit_eq_decide_div_mod_eq]
  apply decide_eq_decide.mpr
  cases w <;> (simp only [Width.bits]; omega)

/-- `(~v) mod 2^w` of a w-bit value. -/
theorem Width.toNat_trunc_not {w : Width} {v : Word} (h : w.trunc v = v) :
    (w.trunc (~~~v)).toNat = 2 ^ w.bits - 1 - v.toNat := by
  rw [w.trunc_eq_self_iff] at h
  rw [w.toNat_trunc, BitVec.toNat_not]
  cases w <;> (simp only [Width.bits] at h ⊢; omega)

/-- The difference of two w-bit values is 0 modulo 2^w just when they are equal (43_arithmetic.md R244). -/
theorem Width.trunc_sub_eq_zero_iff {w : Width} {r b : Word} (hr : w.trunc r = r) (hb : w.trunc b = b) :
    w.trunc (r - b) = 0 ↔ r = b := by
  rw [w.trunc_eq_self_iff] at hr hb
  rw [BitVec.toNat_eq, w.toNat_trunc, BitVec.toNat_sub, Width.mod_word_mod, BitVec.toNat_eq, show (0 : Word).toNat = 0 from rfl]
  cases w <;> (simp only [Width.bits] at hr hb ⊢; omega)

end Sys2Proof

namespace Sys2Proof.Machine
open Sys2Proof.Claims

theorem putV_eq_withFlag (p : Byte) (b : Bool) : putV p b = withFlag p .v b := (withFlag_eq_clear_or p .v b).symm

theorem putC_eq_withFlag (p : Byte) (b : Bool) : putC p b = withFlag p .c b := (withFlag_eq_clear_or p .c b).symm

/-! ADC and SBC. -/

theorem addFlags_eq (w : Width) (t : AddResult) (p : Byte) : addFlags w t p = nz (putV (putC p t.c) t.v) w t.r := by
  rw [nz_eq_setNZ, putV_eq_withFlag, putC_eq_withFlag, addFlags]

/-- What ADC and SBC write, from their second addend, in the statements' words (43_arithmetic.md R242, R243). -/
theorem State.addWith_eq (s : State) (b : Word) (sub : Bool) :
    s.cpu.addWith b sub =
      let w := mWidth s
      let t := addCore (low w s.cpu.a) b (fC s) w (fD s) sub
      { s.cpu with a := written w s.cpu.a t.r, p := nz (putV (putC s.cpu.p t.c) t.v) w t.r } := by
  simp only [← addFlags_eq, written_eq_merge, low_eq_trunc]
  rfl

/-! Compares. -/

theorem compareFlags_eq {w : Width} {r b : Word} (hr : w.trunc r = r) (hb : w.trunc b = b) (p : Byte) :
    compareFlags w r b p =
      putZ (putN (putC p (decide (b.toNat ≤ r.toNat))) (top w (r - b))) (decide (r = b)) := by
  have hn : w.msb (w.trunc (r - b)) = top w (r - b) := by
    rw [top_eq_msb, w.msb_eq_decide, w.msb_eq_decide, w.toNat_trunc, Nat.mod_mod]
  have hz : (w.trunc (w.trunc (r - b)) == 0) = decide (r = b) := by
    rw [Width.trunc_trunc, beq_eq_decide]
    exact decide_eq_decide.mpr (Width.trunc_sub_eq_zero_iff hr hb)
  rw [compareFlags, setNZ, hn, hz, putZ_eq_withFlag, putN_eq_withFlag, putC_eq_withFlag]
  rfl

/-- A compare writes P only, from the register's value and the operand. -/
theorem State.compare_eq (s : State) {w : Width} {reg : Word} (hreg : w.trunc reg = reg) (mode : Mode) :
    s.compare w reg mode =
      let r := s.operand w mode
      { r.st with cpu := { s.cpu with
        p := putZ (putN (putC s.cpu.p (decide (r.v.toNat ≤ reg.toNat))) (top w (reg - r.v))) (decide (reg = r.v)) } } := by
  rw [State.compare, compareFlags_eq hreg (s.operand_trunc w mode), State.operand_cpu]
  rfl

/-! Read-modify-writes. -/

theorem Cpu.trunc_acc (c : Cpu) : c.m.trunc c.acc = c.acc := Width.trunc_trunc ..

/-- The bit shifted in by ROL and ROR is C. -/
theorem toNat_carryIn (c : Bool) : (if c then 1 else 0 : Word).toNat = c.toNat := by cases c <;> rfl

/-- `v << 1` with a bit shifted in. -/
theorem toNat_shiftLeft_one_or (v : Word) (c : Bool) :
    (v <<< 1 ||| if c then 1 else 0 : Word).toNat = (2 * v.toNat + c.toNat) % 2 ^ 16 := by
  have hc : ((v <<< 1) &&& (if c then 1 else 0 : Word)) = 0 := by
    cases c with
    | false => exact BitVec.and_zero
    | true =>
      ext k hk
      cases k <;> simp
  rw [← BitVec.add_eq_or_of_and_eq_zero _ _ hc, BitVec.toNat_add, toNat_carryIn, BitVec.toNat_shiftLeft, Nat.shiftLeft_eq]
  omega

/-- `v >> 1` of a w-bit value with a bit shifted in at w-1. -/
theorem toNat_ushiftRight_one_or {w : Width} {v : Word} (h : w.trunc v = v) (c : Bool) :
    (v >>> 1 ||| (if c then 1 else 0 : Word) <<< (w.bits - 1)).toNat = v.toNat / 2 + c.toNat * 2 ^ (w.bits - 1) := by
  rw [w.trunc_eq_self_iff] at h
  have hlow : v.toNat / 2 < 2 ^ (w.bits - 1) := by cases w <;> (simp only [Width.bits] at h ⊢; omega)
  have hhigh : c.toNat * 2 ^ (w.bits - 1) < 2 ^ 16 := by
    have := c.toNat_le
    cases w <;> (simp only [Width.bits]; omega)
  rw [BitVec.toNat_or, BitVec.toNat_ushiftRight, BitVec.toNat_shiftLeft, toNat_carryIn, Nat.shiftRight_eq_div_pow,
    Nat.shiftLeft_eq, Nat.mod_eq_of_lt hhigh, Nat.or_comm, ← Nat.shiftLeft_eq, pow_one, ← Nat.shiftLeft_add_eq_or_of_lt hlow,
    Nat.add_comm]

/-- The new value of each read-modify-write as the number of its rule. -/
theorem modifyFn_value (op : ModifyOp) {c : Cpu} {v : Word} (h : c.m.trunc v = v) (p : Byte) :
    (modifyFn op c p v).value = BitVec.ofNat 16 (newValue op c.m c.acc (flagOf p .c) v) := by
  apply BitVec.eq_of_toNat_eq
  rw [BitVec.toNat_ofNat]
  cases op with
  | inc =>
    change (c.m.trunc (v + 1)).toNat = (v.toNat + 1) % 2 ^ c.m.bits % 2 ^ 16
    rw [c.m.toNat_trunc, BitVec.toNat_add, Width.mod_word_mod, Width.mod_mod_word]
    rfl
  | dec =>
    change (c.m.trunc (v - 1)).toNat = (v.toNat + 2 ^ c.m.bits - 1) % 2 ^ c.m.bits % 2 ^ 16
    rw [c.m.toNat_trunc, BitVec.toNat_sub, Width.mod_word_mod, Width.mod_mod_word, show (1 : Word).toNat = 1 from rfl]
    cases c.m <;> (simp only [Width.bits]; omega)
  | asl =>
    change (c.m.trunc (v <<< 1)).toNat = 2 * v.toNat % 2 ^ c.m.bits % 2 ^ 16
    rw [c.m.toNat_trunc, BitVec.toNat_shiftLeft, Width.mod_word_mod, Width.mod_mod_word, Nat.shiftLeft_eq, Nat.mul_comm]
  | lsr =>
    change (v >>> 1).toNat = v.toNat / 2 % 2 ^ 16
    rw [BitVec.toNat_ushiftRight, Nat.shiftRight_eq_div_pow]
    omega
  | rol =>
    change (c.m.trunc (v <<< 1 ||| if flagOf p .c then 1 else 0)).toNat =
      (2 * v.toNat + (flagOf p .c).toNat) % 2 ^ c.m.bits % 2 ^ 16
    rw [c.m.toNat_trunc, toNat_shiftLeft_one_or, Width.mod_word_mod, Width.mod_mod_word]
  | ror =>
    have hr := toNat_ushiftRight_one_or h (flagOf p .c)
    exact hr.trans (Nat.mod_eq_of_lt (hr ▸ BitVec.isLt _)).symm
  | tsb => exact (Nat.mod_eq_of_lt (BitVec.isLt _)).symm
  | trb => exact (Nat.mod_eq_of_lt (BitVec.isLt _)).symm

/-- P after each read-modify-write, from its operand and its new value. -/
theorem modifyFn_p (op : ModifyOp) (c : Cpu) (p : Byte) (v : Word) :
    (modifyFn op c p v).p = newStatus op c.m c.acc p v (modifyFn op c p v).value := by
  cases op <;> simp only [newStatus, nz_eq_setNZ, putC_eq_withFlag, putZ_eq_withFlag, top_eq_msb] <;> rfl

/-- Each read-modify-write function gives the value and the status of its rule. -/
theorem modifyFn_eq (op : ModifyOp) {c : Cpu} {p : Byte} {v : Word} (h : c.m.trunc v = v) :
    modifyFn op c p v =
      let r := BitVec.ofNat 16 (newValue op c.m c.acc (flagOf p .c) v)
      { value := r, p := newStatus op c.m c.acc p v r } := by
  have hp := modifyFn_p op c p v
  rw [modifyFn_value op h] at hp
  exact congrArg₂ Modified.mk (modifyFn_value op h p) hp

/-- `Modify` writes P and the operand's bytes, high byte first (40_addressing.md R195). -/
theorem State.modify_eq (s : State) (w : Width) (l : Loc) (f : Byte → Word → Modified) :
    s.modify w l f =
      let r := s.load w l
      let t := f s.cpu.p r.v
      { r.st with cpu := { s.cpu with p := t.p }, bus := writeBack r.st.bus (operandAddrs r.st w l) t.value } := by
  rw [State.modify, State.load_cpu]
  dsimp only
  rw [← operandAddrs_withP _ (f s.cpu.p (s.load w l).v).p, State.load_cpu]
  cases w <;> rfl

/-- Every accumulator form of a read-modify-write is `Aw <- f(Aw)` (40_addressing.md R192). -/
theorem exec_of_accForm {i : Instr} {op : ModifyOp} (h : accForm i = some op) (s : State) :
    exec i s = .next (s.modifyAcc (modifyFn op s.cpu)) := by
  cases i with
  | aslAcc | incAcc | rolAcc | decAcc | lsrAcc | rorAcc => cases h; rfl
  | _ => cases h

end Sys2Proof.Machine

namespace Sys2Proof.Proofs
open Sys2Proof.Machine Sys2Proof.Claims

/-- Settles O35: reading the operand keeps the registers, and `addWith` on them is the statement's. -/
theorem addAndSubtract : Obligations.AddAndSubtract := by
  intro i mode s
  simp only [low_eq_trunc _ (~~~_)]
  refine ⟨fun hi => ?adc, fun hi => ?sbc⟩
  all_goals
    rw [exec_of_readForm hi s]
    simp only [State.readOp, State.adc, State.sbc, State.operand_cpu, State.addWith_eq]
    rfl

/-- Settles O38: each compare is `Compare` of its register's value at its width. -/
theorem compares : Obligations.Compares := by
  intro i mode s op w reg hi h
  have hreg : w.trunc reg = reg := by
    obtain ⟨-, -, rfl⟩ | ⟨-, -, rfl⟩ | ⟨-, -, rfl⟩ := h <;> rw [low_eq_trunc, Width.trunc_trunc]
  have hop : s.readOp op mode = s.compare w reg mode := by
    obtain ⟨rfl, rfl, rfl⟩ | ⟨rfl, rfl, rfl⟩ | ⟨rfl, rfl, rfl⟩ := h <;> rw [low_eq_trunc] <;> rfl
  rw [exec_of_readForm hi s, hop, State.compare_eq s hreg]

/-- Settles O40: every form is `Modify` of its function at its mode, or the function on the accumulator. -/
theorem readModifyWrite : Obligations.ReadModifyWrite := by
  intro i op s
  simp only [low_eq_trunc, written_eq_merge]
  refine ⟨fun mode hi => ?memory, fun hi => ?accumulator⟩
  case memory =>
    rw [exec_of_modifyForm hi s, State.modifyAt, State.modify_eq, State.ea_cpu]
    dsimp only
    rw [modifyFn_eq op (State.load_trunc ..)]
    rfl
  case accumulator =>
    rw [exec_of_accForm hi s, State.modifyAcc, modifyFn_eq op s.cpu.trunc_acc]
    rfl

end Sys2Proof.Proofs
end

section
/-! The add core in binary mode (43_arithmetic.md R240, R241). -/
namespace Sys2Proof

/-- V of the add core: the addends agree in sign, and the sum does not. -/
theorem Width.msb_overflow (w : Width) (a b r : Word) :
    w.msb (~~~(a ^^^ b) &&& (a ^^^ r)) = ((w.msb a == w.msb b) && (w.msb a != w.msb r)) := by
  have hw : w.bits - 1 < 16 := by cases w <;> decide
  simp only [Width.msb, BitVec.getLsbD_and, BitVec.getLsbD_not, BitVec.getLsbD_xor, hw]
  cases a.getLsbD (w.bits - 1) <;> cases b.getLsbD (w.bits - 1) <;> simp

/-- Bit w-1, as a number, says which half of the w-bit values a value lies in. -/
theorem Width.msb_bounds (w : Width) (v : Word) :
    2 ^ (w.bits - 1) * (w.msb v).toNat ≤ v.toNat % 2 ^ w.bits ∧
      v.toNat % 2 ^ w.bits < 2 ^ (w.bits - 1) * ((w.msb v).toNat + 1) := by
  rw [w.msb_eq_decide]
  have hlt := Nat.mod_lt v.toNat (Nat.two_pow_pos w.bits)
  by_cases h : 2 ^ (w.bits - 1) ≤ v.toNat % 2 ^ w.bits
  · rw [decide_eq_true h]
    exact ⟨by simpa using h, by cases w <;> simpa [Width.bits] using hlt⟩
  · rw [decide_eq_false h]
    exact ⟨by simp, by simpa using h⟩

end Sys2Proof

namespace Sys2Proof.Machine
open Sys2Proof.Claims

/-- The add core in binary mode: `a + b + c`, in which a subtraction differs by its second addend only. -/
theorem addCore_binary (a b : Word) (c : Bool) (w : Width) (sub : Bool) :
    addCore a b c w false sub =
      let r := a.toNat + b.toNat + c.toNat
      { r := w.trunc (BitVec.ofNat 16 r), c := decide (2 ^ w.bits ≤ r),
        v := w.msb (~~~(a ^^^ b) &&& (a ^^^ BitVec.ofNat 16 r)) } := by
  have hc (r : Nat) : (r : Int) > 2 ^ w.bits - 1 ↔ 2 ^ w.bits ≤ r := by
    rw [gt_iff_lt, Int.sub_one_lt_iff]
    exact_mod_cast Iff.rfl
  simp only [addCore, Bool.false_and, Bool.false_eq_true, if_false, BitVec.ofInt_natCast, hc]

/-- The signed reading as a number: the upper half is negative. -/
theorem signed_eq (w : Width) (v : Word) : signed w v = v.toNat - (w.msb v).toNat * 2 ^ w.bits := by
  rw [signed, top_eq_msb]
  cases w.msb v <;> simp

/-- The signed reading of the complement (43_arithmetic.md R243). -/
theorem signed_trunc_not {w : Width} {v : Word} (h : w.trunc v = v) : signed w (w.trunc (~~~v)) = -signed w v - 1 := by
  have hv := (w.trunc_eq_self_iff v).mp h
  have hn := Width.toNat_trunc_not h
  have bv := w.msb_bounds v
  have bn := w.msb_bounds (w.trunc (~~~v))
  rw [signed_eq, signed_eq]
  cases w <;> (simp only [Width.bits] at *; omega)

theorem bool_eq_iff_toNat_eq (p q : Bool) : p = q ↔ p.toNat = q.toNat := by cases p <;> cases q <;> decide

/-- The sum of two w-bit values and a carry leaves the signed range just when the addends agree in sign and the sum does not. -/
theorem overflows_add {w : Width} {a b : Word} (ha : w.trunc a = a) (hb : w.trunc b = b) (c : Bool) :
    overflows w (signed w a + signed w b + c.toNat) =
      ((w.msb a == w.msb b) && (w.msb a != w.msb (BitVec.ofNat 16 (a.toNat + b.toNat + c.toNat)))) := by
  have hc := c.toNat_le
  have hla := (w.trunc_eq_self_iff a).mp ha
  have hlb := (w.trunc_eq_self_iff b).mp hb
  have ba := w.msb_bounds a
  have bb := w.msb_bounds b
  have br := w.msb_bounds (BitVec.ofNat 16 (a.toNat + b.toNat + c.toNat))
  rw [BitVec.toNat_ofNat, Width.mod_word_mod] at br
  rw [signed_eq, signed_eq, overflows, Bool.eq_iff_iff]
  simp only [Bool.or_eq_true, Bool.and_eq_true, decide_eq_true_eq, beq_iff_eq, bne_iff_ne, ne_eq,
    bool_eq_iff_toNat_eq (w.msb _)]
  cases w <;> (simp only [Width.bits] at *; omega)

/-- What the add core computes in binary mode, for either second addend. -/
theorem addCore_binary_spec {w : Width} {a b : Word} (ha : w.trunc a = a) (hb : w.trunc b = b) (c sub : Bool) :
    let t := addCore a b c w false sub
    t.r.toNat = (a.toNat + b.toNat + c.toNat) % 2 ^ w.bits ∧
    t.c = decide (2 ^ w.bits ≤ a.toNat + b.toNat + c.toNat) ∧
    t.v = overflows w (signed w a + signed w b + c.toNat) := by
  rw [addCore_binary]
  refine ⟨?_, rfl, ?_⟩
  · rw [w.toNat_trunc, BitVec.toNat_ofNat, Width.mod_word_mod]
  · rw [overflows_add ha hb c, ← Width.msb_overflow]

end Sys2Proof.Machine

namespace Sys2Proof.Proofs
open Sys2Proof.Machine Sys2Proof.Claims

/-- Settles O36: SBC adds the complement of its operand, 2^w - 1 - b unsigned and -b - 1 signed. -/
theorem binaryArithmetic : Obligations.BinaryArithmetic := by
  intro w a b c ha hb
  simp only [low_eq_trunc] at ha hb ⊢
  obtain ⟨hr, hc, hv⟩ := addCore_binary_spec ha hb c false
  obtain ⟨hr', hc', hv'⟩ := addCore_binary_spec ha (w.trunc_trunc (~~~b)) c true
  rw [Width.toNat_trunc_not hb] at hr' hc'
  rw [signed_trunc_not hb] at hv'
  have hcarry := c.toNat_le
  have hlb := (w.trunc_eq_self_iff b).mp hb
  refine ⟨hr, hc, hv, ?difference, ?notBorrow, ?overflow⟩
  case difference =>
    rw [hr']
    cases w <;> (simp only [Width.bits] at hlb ⊢; omega)
  case notBorrow =>
    rw [hc']
    apply decide_eq_decide.mpr
    omega
  case overflow =>
    rw [hv']
    congr 1
    omega

end Sys2Proof.Proofs
end

section
/-! The add core in decimal mode (43_arithmetic.md R241): the schoolbook sum of decimal digits. A subtraction adds the nines'
complement digits 9 - d of its operand, which the complement of the operand holds in excess six: 15 - d = (9 - d) + 6. -/
namespace Sys2Proof

/-- The digits of a w-bit value. -/
def Width.digits (w : Width) : Nat := w.bits / 4

theorem Width.two_pow_bits (w : Width) : 2 ^ w.bits = 16 ^ w.digits := by cases w <;> rfl

end Sys2Proof

namespace Sys2Proof.Machine
open Sys2Proof.Claims

/-! Positional values. -/

/-- The number the first `n` digits spell in a base. -/
def spelled (base : Nat) (d : Nat → Nat) (n : Nat) : Nat := ∑ k ∈ Finset.range n, d k * base ^ k

theorem spelled_succ (base : Nat) (d : Nat → Nat) (n : Nat) :
    spelled base d (n + 1) = spelled base d n + d n * base ^ n := Finset.sum_range_succ _ n

theorem spelled_lt {base : Nat} {d : Nat → Nat} (hd : ∀ k, d k < base) (n : Nat) : spelled base d n < base ^ n := by
  induction n with
  | zero => simp [spelled]
  | succ n ih =>
    have h := Nat.mul_le_mul_right (base ^ n) (Nat.succ_le_of_lt (hd n))
    rw [spelled_succ, Nat.pow_succ']
    linarith [Nat.succ_mul (d n) (base ^ n)]

theorem spelled_div_mod {base : Nat} {d : Nat → Nat} (hd : ∀ k, d k < base) {k n : Nat} (h : k < n) :
    spelled base d n / base ^ k % base = d k := by
  have hpos : 0 < base ^ k := Nat.pow_pos (Nat.zero_lt_of_lt (hd 0))
  induction n, h using Nat.le_induction with
  | base =>
    rw [spelled_succ, Nat.add_mul_div_right _ _ hpos, Nat.div_eq_of_lt (spelled_lt hd k), Nat.zero_add,
      Nat.mod_eq_of_lt (hd k)]
  | succ n h ih =>
    obtain ⟨j, rfl⟩ := Nat.exists_eq_add_of_le h
    have htop : d (k + 1 + j) * base ^ (k + 1 + j) = d (k + 1 + j) * base ^ j * base * base ^ k := by ring
    rw [spelled_succ, htop, Nat.add_mul_div_right _ _ hpos, Nat.add_mul_mod_self_right, ih]

theorem spelled_div_of_le {base : Nat} {d : Nat → Nat} (hd : ∀ k, d k < base) {k n : Nat} (h : n ≤ k) :
    spelled base d n / base ^ k = 0 :=
  Nat.div_eq_of_lt ((spelled_lt hd n).trans_le (Nat.pow_le_pow_right (Nat.zero_lt_of_lt (hd 0)) h))

/-- The carry into digit `k` of the decimal sum of the digits `x` and `y` and the carry `c`. -/
def decimalCarry (x y : Nat → Nat) (c : Nat) : Nat → Nat
  | 0 => c
  | k + 1 => (x k + y k + decimalCarry x y c k) / 10

/-- Digit `k` of the decimal sum. -/
def decimalDigitOf (x y : Nat → Nat) (c k : Nat) : Nat := (x k + y k + decimalCarry x y c k) % 10

theorem decimalDigitOf_lt (x y : Nat → Nat) (c k : Nat) : decimalDigitOf x y c k < 10 := Nat.mod_lt _ (by decide)

theorem decimalCarry_le_one {x y : Nat → Nat} {c : Nat} (hx : ∀ k, x k ≤ 9) (hy : ∀ k, y k ≤ 9) (hc : c ≤ 1) (k : Nat) :
    decimalCarry x y c k ≤ 1 := by
  induction k with
  | zero => exact hc
  | succ k ih =>
    have := hx k
    have := hy k
    rw [decimalCarry]
    omega

/-- The digits and the last carry spell the sum. -/
theorem spelled_decimalDigitOf (x y : Nat → Nat) (c n : Nat) :
    spelled 10 (decimalDigitOf x y c) n + decimalCarry x y c n * 10 ^ n = spelled 10 x n + spelled 10 y n + c := by
  induction n with
  | zero => simp [spelled, decimalCarry]
  | succ n ih =>
    have hdm := Nat.mod_add_div (x n + y n + decimalCarry x y c n) 10
    have h : decimalDigitOf x y c n + 10 * decimalCarry x y c (n + 1) = x n + y n + decimalCarry x y c n := hdm
    rw [spelled_succ, spelled_succ, spelled_succ]
    linear_combination ih + 10 ^ n * h

/-! The loop of the add core. -/

/-- The digit a mask of four bits selects. -/
theorem and_digitMask (a k : Nat) : a &&& 0xF * 16 ^ k = a / 16 ^ k % 16 * 16 ^ k := by
  have h16 : 16 ^ k = 2 ^ (4 * k) := by rw [Nat.pow_mul]
  rw [h16]
  apply Nat.eq_of_testBit_eq
  intro i
  rw [Nat.testBit_and, Nat.testBit_mul_two_pow, Nat.testBit_mul_two_pow, show (16 : Nat) = 2 ^ 4 from rfl,
    Nat.testBit_mod_two_pow, Nat.testBit_div_two_pow, show 0xF = 2 ^ 4 - 1 from rfl, Nat.testBit_two_pow_sub_one]
  by_cases h : 4 * k ≤ i
  · rw [Nat.sub_add_cancel h]
    simp [h, Bool.and_comm]
  · simp [h]

/-- The correction of a digit at `unit` in the decimal add (43_arithmetic.md R241): by 6 where an addition gave more than 9,
or a subtraction did not carry. -/
def decimalCorrect (sub : Bool) (unit r : Int) : Int :=
  let r1 := if !sub && decide (r > 10 * unit - 1) then r + 6 * unit else r
  if sub && decide (r1 ≤ 16 * unit - 1) then r1 - 6 * unit else r1

/-- How much the second addend's digits exceed those of the decimal addend. -/
def excess (sub : Bool) : Nat := if sub then 6 else 0

theorem excess_add : excess false = 0 := rfl

theorem excess_sub : excess true = 6 := rfl

theorem decimalDigit_succ (a b : Nat) (sub : Bool) (k : Nat) (r : Int) :
    decimalDigit a b sub (k + 1) r =
      let lim : Int := 16 ^ (k + 1)
      let q := decimalCorrect sub (16 ^ k) r
      ((a / 16 ^ (k + 1) % 16 * 16 ^ (k + 1) : Nat) : Int) + ((b / 16 ^ (k + 1) % 16 * 16 ^ (k + 1) : Nat) : Int) +
        (if q > lim - 1 then 1 else 0) * lim + q % lim := by
  simp only [decimalDigit, and_digitMask, decimalCorrect, Nat.add_sub_cancel, ← pow_succ']

theorem decimalCorrect_add (unit r : Int) :
    decimalCorrect false unit r = if r > 10 * unit - 1 then r + 6 * unit else r := by simp [decimalCorrect]

theorem decimalCorrect_sub (unit r : Int) :
    decimalCorrect true unit r = if r ≤ 16 * unit - 1 then r - 6 * unit else r := by simp [decimalCorrect]

/-- A digit sum `u` in excess, corrected at its unit, is its decimal digit and a carry into the next. -/
theorem decimalCorrect_eq (sub : Bool) {unit u l : Nat} (hu : u < 20) (hl : l < unit) :
    decimalCorrect sub unit ((u + excess sub) * unit + l : Nat) = (l + u % 10 * unit + u / 10 * (16 * unit) : Nat) := by
  have hdigit : u % 10 * unit ≤ 9 * unit := Nat.mul_le_mul_right unit (by omega)
  have hsum : (u + excess sub) * unit = u % 10 * unit + u / 10 * (10 * unit) + excess sub * unit := by
    calc (u + excess sub) * unit = (u % 10 + 10 * (u / 10) + excess sub) * unit := by rw [Nat.mod_add_div]
      _ = _ := by ring
  rw [hsum]
  generalize u % 10 * unit = digit at hdigit
  obtain hcarry | hcarry : u / 10 = 0 ∨ u / 10 = 1 := by omega
  all_goals
    rw [hcarry]
    cases sub with
    | false => rw [decimalCorrect_add, excess_add]; split <;> omega
    | true => rw [decimalCorrect_sub, excess_sub]; split <;> omega

/-- The sum as the decimal add holds it before the correction of digit `k`: the digits below are final. -/
def decimalPartial (x y : Nat → Nat) (c : Nat) (sub : Bool) (k : Nat) : Nat :=
  (x k + y k + decimalCarry x y c k + excess sub) * 16 ^ k + spelled 16 (decimalDigitOf x y c) k

theorem decimalDigitOf_lt_sixteen (x y : Nat → Nat) (c k : Nat) : decimalDigitOf x y c k < 16 :=
  (decimalDigitOf_lt x y c k).trans (by decide)

/-- A number below `lim` plus a carry at `lim` reaches `lim` just when there is a carry. -/
theorem add_carry_le_iff {l q lim : Nat} (hl : l < lim) : lim ≤ l + q * lim ↔ q ≠ 0 := by
  cases q with
  | zero => simpa using hl
  | succ q => simpa [Nat.succ_mul] using Nat.le_add_left_of_le (Nat.le_add_left _ _)

theorem add_carry_gt_iff {l q lim : Nat} (hl : l < lim) : ((l + q * lim : Nat) : Int) > (lim : Int) - 1 ↔ q ≠ 0 := by
  rw [gt_iff_lt, Int.sub_one_lt_iff, Nat.cast_le, add_carry_le_iff hl]

section
variable {x y : Nat → Nat} {c : Nat} (hx : ∀ k, x k ≤ 9) (hy : ∀ k, y k ≤ 9) (hc : c ≤ 1)
include hx hy hc

/-- Correcting digit `k` makes it final and carries into the next. -/
theorem decimalCorrect_partial (sub : Bool) (k : Nat) :
    decimalCorrect sub (16 ^ k) (decimalPartial x y c sub k) =
      (spelled 16 (decimalDigitOf x y c) (k + 1) + decimalCarry x y c (k + 1) * 16 ^ (k + 1) : Nat) := by
  have hu : x k + y k + decimalCarry x y c k < 20 := by
    have := decimalCarry_le_one hx hy hc k
    have := hx k
    have := hy k
    omega
  have h : decimalCorrect sub (16 ^ k : Nat) (decimalPartial x y c sub k) =
      (spelled 16 (decimalDigitOf x y c) k + decimalDigitOf x y c k * 16 ^ k +
        decimalCarry x y c (k + 1) * (16 * 16 ^ k) : Nat) :=
    decimalCorrect_eq sub hu (spelled_lt (decimalDigitOf_lt_sixteen x y c) k)
  rw [← pow_succ', ← spelled_succ] at h
  exact_mod_cast h

/-- The loop body takes the sum before the correction of a digit to the sum before the correction of the next. -/
theorem decimalDigit_partial {a b : Nat} {sub : Bool} {k : Nat} (ha : a / 16 ^ (k + 1) % 16 = x (k + 1))
    (hb : b / 16 ^ (k + 1) % 16 = y (k + 1) + excess sub) :
    decimalDigit a b sub (k + 1) (decimalPartial x y c sub k) = decimalPartial x y c sub (k + 1) := by
  have hlt := spelled_lt (decimalDigitOf_lt_sixteen x y c) (k + 1)
  have hcarry := decimalCarry_le_one hx hy hc (k + 1)
  have hlim : (16 : Int) ^ (k + 1) = (16 ^ (k + 1) : Nat) := by norm_cast
  have hcy : (if decimalCarry x y c (k + 1) ≠ 0 then 1 else 0 : Int) = decimalCarry x y c (k + 1) := by
    obtain h | h : decimalCarry x y c (k + 1) = 0 ∨ decimalCarry x y c (k + 1) = 1 := by omega
    all_goals simp [h]
  rw [decimalDigit_succ, decimalCorrect_partial hx hy hc, ha, hb, hlim]
  simp only [add_carry_gt_iff hlt, hcy]
  rw [← Int.natCast_mod, Nat.add_mul_mod_self_right, Nat.mod_eq_of_lt hlt]
  norm_cast
  rw [decimalPartial]
  ring

/-- The sum before the last correction. -/
theorem decimalSum_partial {a b : Nat} {w : Width} {sub : Bool} (ha : ∀ k, a / 16 ^ k % 16 = x k)
    (hb : ∀ k < w.digits, b / 16 ^ k % 16 = y k + excess sub) :
    decimalSum a b c w sub = decimalPartial x y c sub (w.digits - 1) := by
  have h0 : ((a % 16 + b % 16 + c : Nat) : Int) = decimalPartial x y c sub 0 := by
    have ha0 := ha 0
    have hb0 := hb 0 (by cases w <;> decide)
    rw [pow_zero, Nat.div_one] at ha0 hb0
    rw [ha0, hb0]
    congr 1
    simp only [decimalPartial, decimalCarry, spelled, Finset.sum_range_zero]
    ring
  have step (k : Nat) (hk : k + 1 < w.digits) := decimalDigit_partial hx hy hc (ha (k + 1)) (hb (k + 1) hk)
  cases w with
  | b8 =>
    rw [decimalSum, h0]
    exact step 0 (by decide)
  | b16 =>
    rw [decimalSum, h0, step 0 (by decide), step 1 (by decide), step 2 (by decide)]
    rfl

end

/-- The add core in decimal mode corrects the last digit; C is the carry out of it (43_arithmetic.md R241). -/
theorem addCore_decimal (a b : Word) (c : Bool) (w : Width) (sub : Bool) :
    let r := decimalCorrect sub (16 ^ (w.digits - 1)) (decimalSum a.toNat b.toNat c.toNat w sub)
    (addCore a b c w true sub).r = w.trunc (BitVec.ofInt 16 r) ∧
    (addCore a b c w true sub).c = decide (r > 16 ^ w.digits - 1) := by
  cases w <;> simp [addCore, decimalCorrect, Width.digits, Width.bits]

/-- Every digit of a decimal value is decimal: above the four of a word they are 0. -/
theorem digit_le_nine {w : Width} {v : Word} (h : validBcd w v) (k : Nat) : digit v k ≤ 9 := by
  by_cases hk : k < 4
  · exact h.2 k hk
  · have hlt : v.toNat < 16 ^ k := v.isLt.trans_le (Nat.pow_le_pow_right (n := 16) (by decide) (Nat.le_of_not_lt hk))
    rw [digit, Nat.div_eq_of_lt hlt]
    decide

theorem bcd_eq_spelled {w : Width} {v : Word} (h : w.trunc v = v) : bcd v = spelled 10 (digit v) w.digits := by
  have hword : bcd v = spelled 10 (digit v) 4 := by
    simp only [bcd, spelled, Finset.sum_range_succ, Finset.sum_range_zero]
    ring
  cases w with
  | b16 => exact hword
  | b8 =>
    have hlt : v.toNat < 2 ^ 8 := (Width.b8.trunc_eq_self_iff v).mp h
    have h2 : digit v 2 = 0 := by rw [digit]; omega
    have h3 : digit v 3 = 0 := by rw [digit]; omega
    rw [hword, spelled_succ, spelled_succ, h2, h3, Nat.zero_mul, Nat.zero_mul]
    rfl

theorem bcdRange_eq (w : Width) : bcdRange w = 10 ^ w.digits := by cases w <;> rfl

/-- The decimal add gives the digits of the decimal sum, from a second addend whose digits are decimal ones `y`, in excess six for
a subtraction. -/
theorem addCore_decimal_eq {w : Width} {a b : Word} {y : Nat → Nat} {sub : Bool} (ha : validBcd w a) (hy : ∀ k, y k ≤ 9)
    (hb : ∀ k < w.digits, digit b k = y k + excess sub) (c : Bool) :
    (addCore a b c w true sub).r.toNat = spelled 16 (decimalDigitOf (digit a) y c.toNat) w.digits ∧
    (addCore a b c w true sub).c = decide (decimalCarry (digit a) y c.toNat w.digits ≠ 0) := by
  have hlt := spelled_lt (decimalDigitOf_lt_sixteen (digit a) y c.toNat) w.digits
  have hdigits : w.digits - 1 + 1 = w.digits := by cases w <;> rfl
  obtain ⟨hr, hc⟩ := addCore_decimal a b c w sub
  rw [decimalSum_partial (digit_le_nine ha) hy c.toNat_le (fun _ => rfl) hb,
    decimalCorrect_partial (digit_le_nine ha) hy c.toNat_le, hdigits] at hr hc
  constructor
  · rw [hr, BitVec.ofInt_natCast, w.toNat_trunc, BitVec.toNat_ofNat, Width.mod_word_mod, w.two_pow_bits,
      Nat.add_mul_mod_self_right, Nat.mod_eq_of_lt hlt]
  · rw [hc]
    exact decide_eq_decide.mpr (by exact_mod_cast add_carry_gt_iff hlt)

/-- What the add core computes in decimal mode, from a second addend whose digits are decimal ones `y`, in excess six for a
subtraction: the decimal sum of the first addend and `y`. -/
theorem addCore_decimal_spec {w : Width} {a b : Word} {y : Nat → Nat} {sub : Bool} (ha : validBcd w a) (hy : ∀ k, y k ≤ 9)
    (hb : ∀ k < w.digits, digit b k = y k + excess sub) (c : Bool) :
    let t := addCore a b c w true sub
    let sum := bcd a + spelled 10 y w.digits + c.toNat
    validBcd w t.r ∧ bcd t.r = sum % bcdRange w ∧ t.c = decide (bcdRange w ≤ sum) := by
  intro t sum
  have hs := decimalDigitOf_lt_sixteen (digit a) y c.toNat
  have hsum : spelled 10 (decimalDigitOf (digit a) y c.toNat) w.digits +
      decimalCarry (digit a) y c.toNat w.digits * bcdRange w = sum := by
    rw [bcdRange_eq, spelled_decimalDigitOf, ← bcd_eq_spelled ((low_eq_trunc w a).symm.trans ha.1)]
  have hlt := spelled_lt (decimalDigitOf_lt (digit a) y c.toNat) w.digits
  rw [← bcdRange_eq] at hlt
  obtain ⟨hr, hcarry⟩ := addCore_decimal_eq ha hy hb c
  have hdigit (k : Nat) : digit t.r k = if k < w.digits then decimalDigitOf (digit a) y c.toNat k else 0 := by
    rw [digit, hr]
    split
    · next h => exact spelled_div_mod hs h
    · next h => rw [spelled_div_of_le hs (Nat.le_of_not_lt h)]
  have htrunc : w.trunc t.r = t.r := by
    rw [w.trunc_eq_self_iff, hr, w.two_pow_bits]
    exact spelled_lt hs _
  refine ⟨⟨(low_eq_trunc ..).trans htrunc, fun k _ => ?digits⟩, ?value, ?carry⟩
  case digits =>
    rw [hdigit]
    split
    · exact Nat.le_of_lt_succ (decimalDigitOf_lt ..)
    · exact Nat.zero_le 9
  case value =>
    have hv : bcd t.r = spelled 10 (decimalDigitOf (digit a) y c.toNat) w.digits := by
      rw [bcd_eq_spelled htrunc]
      exact Finset.sum_congr rfl fun k hk => by rw [hdigit, if_pos (Finset.mem_range.mp hk)]
    rw [hv, ← hsum, Nat.add_mul_mod_self_right, Nat.mod_eq_of_lt hlt]
  case carry =>
    rw [hcarry, ← hsum]
    exact decide_eq_decide.mpr (add_carry_le_iff hlt).symm

/-- The digits of the complement of a w-bit value. -/
theorem digit_trunc_not {w : Width} {v : Word} (h : w.trunc v = v) {k : Nat} (hk : k < w.digits) :
    digit (w.trunc (~~~v)) k = 15 - digit v k := by
  have hlt := (w.trunc_eq_self_iff v).mp h
  rw [digit, digit, Width.toNat_trunc_not h]
  cases w with
  | b8 =>
    change k < 2 at hk
    change v.toNat < 2 ^ 8 at hlt
    rw [Width.bits]
    interval_cases k <;> omega
  | b16 =>
    change k < 4 at hk
    rw [Width.bits]
    interval_cases k <;> omega

/-- The nines' complement digits spell the nines' complement. -/
theorem spelled_nines (d : Nat → Nat) (hd : ∀ k, d k ≤ 9) (n : Nat) :
    spelled 10 (fun k => 9 - d k) n + spelled 10 d n + 1 = 10 ^ n := by
  induction n with
  | zero => rfl
  | succ n ih =>
    have h : 9 - d n + d n = 9 := Nat.sub_add_cancel (hd n)
    rw [spelled_succ, spelled_succ]
    linear_combination ih + 10 ^ n * h

end Sys2Proof.Machine

namespace Sys2Proof.Proofs
open Sys2Proof.Machine Sys2Proof.Claims

/-- Settles O37: ADC adds the digits of its operand, and SBC their nines' complement, with the excess six of its addend. -/
theorem decimalArithmetic : Obligations.DecimalArithmetic := by
  intro w a b c ha hb
  have htrunc : w.trunc b = b := (low_eq_trunc w b).symm.trans hb.1
  have hb9 := digit_le_nine hb
  have hcomplement (k : Nat) (hk : k < w.digits) : digit (low w (~~~b)) k = 9 - digit b k + excess true := by
    have := hb9 k
    rw [low_eq_trunc, digit_trunc_not htrunc hk, excess_sub]
    omega
  have hnines := spelled_nines (digit b) hb9 w.digits
  have hcarry := c.toNat_le
  rw [← bcd_eq_spelled htrunc, ← bcdRange_eq] at hnines
  obtain ⟨hv, hr, hc⟩ := addCore_decimal_spec (b := b) (sub := false) ha hb9 (fun _ _ => rfl) c
  obtain ⟨hv', hr', hc'⟩ := addCore_decimal_spec ha (fun k => Nat.sub_le 9 (digit b k)) hcomplement c
  rw [← bcd_eq_spelled htrunc] at hr hc
  refine ⟨hv, hr, hc, hv', ?difference, ?notBorrow⟩
  case difference =>
    rw [hr']
    cases w <;> (simp only [bcdRange] at hnines ⊢; omega)
  case notBorrow =>
    rw [hc']
    apply decide_eq_decide.mpr
    omega

end Sys2Proof.Proofs
end

section
/-! The bits of a word at a width (00_scope.md R10, R11), the ring of the accumulator's bits and C, which ROL A and ROR A turn
(44_logic_shift.md R268, R269), and what AND, ORA, EOR and BIT write (44_logic_shift.md R260 to R263). -/
namespace Sys2Proof

theorem Width.bits_pos (w : Width) : 0 < w.bits := by cases w <;> decide

theorem Width.getLsbD_trunc (w : Width) (v : Word) (k : Nat) :
    (w.trunc v).getLsbD k = (decide (k < w.bits) && v.getLsbD k) := by
  cases w with
  | b8 => rw [Width.trunc_b8, getLsbD_zext, getLsbD_loByte, Width.bits]
  | b16 => rw [Width.trunc_b16, Width.bits, ← BitVec.getLsbD_setWidth, BitVec.setWidth_eq]

/-- A write at a width changes the bits below it only. -/
theorem Width.getLsbD_merge (w : Width) (o v : Word) (k : Nat) :
    (w.merge o v).getLsbD k = if k < w.bits then v.getLsbD k else o.getLsbD k := by
  cases w with
  | b8 =>
    have ho := getLsbD_mkWord (hiByte o) (loByte o) k
    rw [mkWord_hi_lo] at ho
    rw [Width.merge_b8, getLsbD_mkWord, Width.bits, ho, getLsbD_loByte]
    split <;> simp [*]
  | b16 =>
    rw [Width.merge_b16, Width.bits]
    split
    · rfl
    · rw [BitVec.getLsbD_of_ge, BitVec.getLsbD_of_ge] <;> omega

end Sys2Proof

namespace Sys2Proof.Machine
open Sys2Proof.Claims

/-! The bits of the values ROL and ROR write. -/

theorem getLsbD_carryIn (c : Bool) (k : Nat) : (if c then 1 else 0 : Word).getLsbD k = (c && decide (k = 0)) := by
  cases c <;> simp [BitVec.getLsbD_one]

theorem rolValue_bit_zero (w : Width) (p : Byte) (v : Word) : (rolValue w p v).value.getLsbD 0 = flagOf p .c := by
  simp only [rolValue, Width.getLsbD_trunc, BitVec.getLsbD_or, getLsbD_carryIn]
  simp [w.bits_pos]

theorem rolValue_bit_succ {w : Width} {k : Nat} (hk : k + 1 < w.bits) (p : Byte) (v : Word) :
    (rolValue w p v).value.getLsbD (k + 1) = v.getLsbD k := by
  have hword := hk.trans_le w.bits_le
  simp only [rolValue, Width.getLsbD_trunc, BitVec.getLsbD_or, getLsbD_carryIn, BitVec.getLsbD_shiftLeft]
  simp [hk, hword]

theorem rorValue_bit_top {w : Width} {v : Word} (h : w.trunc v = v) (p : Byte) :
    (rorValue w p v).value.getLsbD (w.bits - 1) = flagOf p .c := by
  have hpos := w.bits_pos
  have hv : v.getLsbD (1 + (w.bits - 1)) = false := by
    rw [← h, Width.getLsbD_trunc, Nat.add_sub_cancel' hpos]
    simp
  have hword : w.bits - 1 < 16 := (Nat.sub_one_lt_of_lt hpos).trans_le w.bits_le
  simp only [rorValue, BitVec.getLsbD_or, BitVec.getLsbD_ushiftRight, BitVec.getLsbD_shiftLeft, getLsbD_carryIn, hv]
  simp [hword]

theorem rorValue_bit_of_succ_lt {w : Width} {k : Nat} (hk : k + 1 < w.bits) (p : Byte) (v : Word) :
    (rorValue w p v).value.getLsbD k = v.getLsbD (k + 1) := by
  have hlow : k < w.bits - 1 := Nat.lt_sub_of_add_lt hk
  simp only [rorValue, BitVec.getLsbD_or, BitVec.getLsbD_ushiftRight, BitVec.getLsbD_shiftLeft]
  simp [hlow, Nat.add_comm]

theorem Cpu.getLsbD_acc (c : Cpu) (k : Nat) : c.acc.getLsbD k = (decide (k < c.m.bits) && c.a.getLsbD k) :=
  Width.getLsbD_trunc ..

theorem State.modifyAcc_getLsbD_a (s : State) (f : Byte → Word → Modified) (k : Nat) :
    (s.modifyAcc f).cpu.a.getLsbD k =
      if k < s.cpu.m.bits then (f s.cpu.p s.cpu.acc).value.getLsbD k else s.cpu.a.getLsbD k := Width.getLsbD_merge ..

theorem State.modifyAcc_getLsbD_high (s : State) (f : Byte → Word → Modified) {k : Nat} (hk : s.cpu.m.bits ≤ k) :
    (s.modifyAcc f).cpu.a.getLsbD k = s.cpu.a.getLsbD k := by
  rw [State.modifyAcc_getLsbD_a, if_neg (Nat.not_lt.mpr hk)]

theorem State.modifyAcc_m (s : State) {f : Byte → Word → Modified} (hf : KeepsWidths f) :
    (s.modifyAcc f).cpu.m = s.cpu.m := by
  have hm : (s.modifyAcc f).cpu.flag .m = s.cpu.flag .m := (hf _ _).1
  rw [Cpu.m, hm, Cpu.m]

namespace Cpu

/-- The accumulator's bits at a width from bit 0 up, then C. -/
def ring (c : Cpu) (w : Width) (k : Fin (w.bits + 1)) : Bool :=
  if k < w.bits then c.a.getLsbD k else c.flag .c

/-- `c'` is `c` with the bits of its ring moved up by `d` places, round from C to bit 0. -/
structure Turned (w : Width) (d : Fin (w.bits + 1)) (c c' : Cpu) : Prop where
  width : c'.m = c.m
  high : ∀ k, w.bits ≤ k → c'.a.getLsbD k = c.a.getLsbD k
  ring : ∀ k, c'.ring w (k + d) = c.ring w k

namespace Turned
variable {w : Width} {d e : Fin (w.bits + 1)} {c c' c'' : Cpu}

theorem refl (w : Width) (c : Cpu) : Turned w 0 c c := ⟨rfl, fun _ _ => rfl, fun k => by rw [add_zero]⟩

theorem trans (h : Turned w d c c') (h' : Turned w e c' c'') : Turned w (d + e) c c'' where
  width := h'.width.trans h.width
  high k hk := (h'.high k hk).trans (h.high k hk)
  ring k := by rw [← add_assoc, h'.ring, h.ring]

theorem symm (h : Turned w d c c') : Turned w (-d) c' c where
  width := h.width.symm
  high k hk := (h.high k hk).symm
  ring k := by rw [← h.ring, neg_add_cancel_right]

/-- Moved all the way round, A and C are as they were. -/
theorem eq_of_zero (h : Turned w 0 c c') : c'.a = c.a ∧ c'.flag .c = c.flag .c := by
  have hring (k : Fin (w.bits + 1)) : c'.ring w k = c.ring w k := by rw [← h.ring, add_zero]
  constructor
  · apply BitVec.eq_of_getLsbD_eq
    intro k _
    rcases Nat.lt_or_ge k w.bits with hk | hk
    · simpa [Cpu.ring, hk] using hring ⟨k, Nat.lt_succ_of_lt hk⟩
    · exact h.high k hk
  · simpa [Cpu.ring] using hring (Fin.last w.bits)

/-- One place up: C goes to bit 0, the top bit to C, and every other bit to the next. -/
theorem of_bits (width : c'.m = c.m) (high : ∀ k, w.bits ≤ k → c'.a.getLsbD k = c.a.getLsbD k)
    (bit0 : c'.a.getLsbD 0 = c.flag .c) (carry : c'.flag .c = c.a.getLsbD (w.bits - 1))
    (next : ∀ k, k + 1 < w.bits → c'.a.getLsbD (k + 1) = c.a.getLsbD k) : Turned w 1 c c' where
  width := width
  high := high
  ring k := by
    induction k using Fin.lastCases with
    | last => simpa [Cpu.ring, Fin.last_add_one, w.bits_pos] using bit0
    | cast k =>
      rw [Fin.coeSucc_eq_succ]
      obtain hk | hk : k + 1 < w.bits ∨ k + 1 = w.bits := by omega
      · simpa [Cpu.ring, hk] using next k hk
      · simpa [Cpu.ring, ← hk] using carry

/-- ROL A turns the ring one place up (44_logic_shift.md R268). -/
theorem rolAcc (s : State) : Turned s.cpu.m 1 s.cpu (s.modifyAcc (modifyFn .rol s.cpu)).cpu := by
  refine of_bits (s.modifyAcc_m (rolValue_widths _)) (fun _ => s.modifyAcc_getLsbD_high _) ?bit0 ?carry fun k hk => ?next
  case bit0 => rw [State.modifyAcc_getLsbD_a, if_pos s.cpu.m.bits_pos]; exact rolValue_bit_zero ..
  case carry =>
    have hc : (s.modifyAcc (modifyFn .rol s.cpu)).cpu.flag .c = s.cpu.m.msb s.cpu.acc := by
      change flagOf (rolValue s.cpu.m s.cpu.p s.cpu.acc).p .c = _
      simp [rolValue]
    rw [hc, Width.msb, Cpu.getLsbD_acc]
    simp [s.cpu.m.bits_pos]
  case next =>
    rw [State.modifyAcc_getLsbD_a, if_pos hk]
    refine (rolValue_bit_succ hk ..).trans ?_
    simp [Cpu.getLsbD_acc, Nat.lt_of_succ_lt hk]

/-- ROR A turns the ring one place down (44_logic_shift.md R269). -/
theorem rorAcc (s : State) : Turned s.cpu.m (-1) s.cpu (s.modifyAcc (modifyFn .ror s.cpu)).cpu := by
  have hpos := s.cpu.m.bits_pos
  have hc : (s.modifyAcc (modifyFn .ror s.cpu)).cpu.flag .c = s.cpu.acc.getLsbD 0 := by
    change flagOf (rorValue s.cpu.m s.cpu.p s.cpu.acc).p .c = _
    simp [rorValue]
  refine symm (of_bits (s.modifyAcc_m (rorValue_widths _)).symm (fun _ hk => (s.modifyAcc_getLsbD_high _ hk).symm)
    ?bit0 ?carry fun k hk => ?next)
  case bit0 =>
    rw [hc, Cpu.getLsbD_acc]
    simp [hpos]
  case carry =>
    rw [State.modifyAcc_getLsbD_a, if_pos (Nat.sub_one_lt_of_lt hpos)]
    exact (rorValue_bit_top s.cpu.trunc_acc _).symm
  case next =>
    rw [State.modifyAcc_getLsbD_a, if_pos (Nat.lt_of_succ_lt hk)]
    refine Eq.trans ?_ (rorValue_bit_of_succ_lt hk ..).symm
    simp [Cpu.getLsbD_acc, hk]

end Turned
end Cpu

/-- Repeating an instruction that turns the ring by `d` places `n` times turns it by `n` times `d`. -/
theorem repeated_turned {i : Instr} {w : Width} {d : Fin (w.bits + 1)}
    (hi : ∀ s, s.cpu.m = w → ∃ t, exec i s = .next t ∧ Cpu.Turned w d s.cpu t.cpu) (n : Nat) :
    ∀ s, s.cpu.m = w → ∃ t, repeated i n s = .next t ∧ Cpu.Turned w (n • d) s.cpu t.cpu := by
  induction n with
  | zero => exact fun s _ => ⟨s, rfl, by rw [zero_nsmul]; exact .refl w s.cpu⟩
  | succ n ih =>
    intro s hs
    obtain ⟨t, ht, hst⟩ := hi s hs
    obtain ⟨u, hu, htu⟩ := ih t (hst.width.trans hs)
    refine ⟨u, ?_, ?_⟩
    · rw [repeated, ht]; exact hu
    · rw [succ_nsmul']; exact hst.trans htu

/-- As many turns as the ring has places give back A and C. -/
theorem repeated_turned_cyclic {i : Instr} (s : State) {d : Fin (s.cpu.m.bits + 1)}
    (hi : ∀ t, t.cpu.m = s.cpu.m → ∃ u, exec i t = .next u ∧ Cpu.Turned s.cpu.m d t.cpu u.cpu) :
    ∃ t, repeated i (s.cpu.m.bits + 1) s = .next t ∧ t.cpu.a = s.cpu.a ∧ fC t = fC s := by
  obtain ⟨t, ht, hst⟩ := repeated_turned hi (s.cpu.m.bits + 1) s rfl
  have hround : (s.cpu.m.bits + 1) • d = 0 := by simpa using card_nsmul_eq_zero' (x := d)
  rw [hround] at hst
  exact ⟨t, ht, hst.eq_of_zero⟩

/-! The logic instructions and BIT. -/

theorem State.logic_eq (s : State) (op : Word → Word → Word) (mode : Mode) :
    s.logic op mode =
      let w := mWidth s
      let r := s.operand w mode
      let v := op (low w s.cpu.a) r.v
      { r.st with cpu := { s.cpu with a := written w s.cpu.a v, p := nz s.cpu.p w v } } := by
  simp only [State.logic, State.operand_cpu, State.setAcc_setNZ_eq, low_eq_trunc]
  rfl

theorem second_eq_getLsbD (w : Width) (v : Word) : second w v = v.getLsbD (w.bits - 2) := by cases w <;> rfl

theorem bitFlags_eq (w : Width) (a v : Word) (p : Byte) :
    bitFlags w a v p = putV (putN (putZ p (a &&& v == 0)) (top w v)) (second w v) := by
  rw [putV_eq_withFlag, putN_eq_withFlag, putZ_eq_withFlag, top_eq_msb, second_eq_getLsbD, bitFlags, Width.msb]

end Sys2Proof.Machine

namespace Sys2Proof.Proofs
open Sys2Proof.Machine Sys2Proof.Claims

/-- Settles O41: ROL A and ROR A turn the ring of the accumulator's bits and C by one place, up and down. -/
theorem rotatesAreCyclic : Obligations.RotatesAreCyclic := by
  intro s
  have hrol (t : State) (ht : t.cpu.m = s.cpu.m) : ∃ u, exec .rolAcc t = .next u ∧ Cpu.Turned s.cpu.m 1 t.cpu u.cpu :=
    ⟨_, exec_of_accForm rfl t, ht ▸ .rolAcc t⟩
  have hror (t : State) (ht : t.cpu.m = s.cpu.m) : ∃ u, exec .rorAcc t = .next u ∧ Cpu.Turned s.cpu.m (-1) t.cpu u.cpu :=
    ⟨_, exec_of_accForm rfl t, ht ▸ .rorAcc t⟩
  refine ⟨repeated_turned_cyclic s hrol, repeated_turned_cyclic s hror, ?undo⟩
  obtain ⟨t, ht, hst⟩ := hrol s rfl
  obtain ⟨u, hu, htu⟩ := hror t hst.width
  have hsu := hst.trans htu
  rw [add_neg_cancel] at hsu
  exact ⟨t, u, ht, hu, hsu.eq_of_zero⟩

/-- Settles O39: every form is its operation at its mode, and reading the operand keeps the registers. -/
theorem logicAndBitTest : Obligations.LogicAndBitTest := by
  intro i mode s
  refine ⟨fun op v hi hv => ?logic, fun mm hmode hi => ?bit, fun v hmode hi => ?bitImm⟩
  all_goals rw [exec_of_readForm hi s]
  case logic =>
    cases op with
    | and | ora | eor =>
      obtain rfl := Option.some.inj hv
      exact congrArg Host.Outcome.next (s.logic_eq _ mode)
    | _ => cases hv
  case bit =>
    subst hmode
    rw [State.readOp, State.bit, State.operand_cpu, bitFlags_eq, low_eq_trunc]
    rfl
  case bitImm =>
    subst hmode
    rw [low_eq_trunc, low_eq_trunc, putZ_eq_withFlag]
    rfl

end Sys2Proof.Proofs
end

section
/-! The stack operations in the statements' words, and that bytes pushed to WRAM are pulled again (40_addressing.md R196, R197). -/
namespace Sys2Proof.Machine
open Sys2Proof.Claims

/-! Pushes and pulls as `pushBytes` and `pullByte`. -/

theorem State.push8_eq_pushByte (s : State) (nw : Bool) (v : Byte) : s.push8 nw v = pushByte nw s v := by
  have cpu : s.cpu.pushed nw = { s.cpu with s := stackDown nw s.cpu 1 } := by
    unfold Cpu.pushed stackDown
    split <;> rfl
  exact congrArg (State.withCpu _) cpu

theorem State.push16_eq_pushWord (s : State) (nw : Bool) (v : Word) : s.push16 nw v = pushWord nw s v := by
  rw [State.push16, State.push8_eq_pushByte, State.push8_eq_pushByte]
  rfl

theorem State.noWrap_eq_newNoWrap (s : State) : s.noWrap = newNoWrap s := rfl

theorem State.endNoWrap_eq_page1 (s : State) : s.endNoWrap = page1 (newNoWrap s) s := rfl

/-- One pull further up (40_addressing.md R197). -/
theorem Cpu.pulled_stackUp (nw : Bool) (c : Cpu) (k : Nat) :
    Cpu.pulled nw { c with s := stackUp nw c k } = { c with s := stackUp nw c (k + 1) } := by
  unfold Cpu.pulled stackUp
  split <;> simp [Cpu.setSL, BitVec.ofNat_add, BitVec.add_assoc]

theorem stackUp_zero (nw : Bool) (c : Cpu) : stackUp nw c 0 = c.s := by simp [stackUp]

/-- The state when `k` bytes have been pulled, the last of them `v`. -/
def State.afterPulls (s : State) (nw : Bool) (k : Nat) (v : Byte) : State :=
  { latched s v with cpu := { s.cpu with s := stackUp nw s.cpu k } }

theorem State.afterPulls_zero (s : State) (nw : Bool) : s.afterPulls nw 0 s.bus.latch = s := by
  rw [State.afterPulls, stackUp_zero]
  rfl

section
variable {s : State} {nw : Bool} {lo hi bk : Byte}

/-- A pull of a byte in a store, after `k` others. -/
theorem State.pull8_afterPulls {k : Nat} {v : Byte} (h : pullByte nw s (k + 1) = some v) (last : Byte) :
    (s.afterPulls nw k last).pull8 nw = { v := v, st := s.afterPulls nw (k + 1) v } := by
  simp only [State.pull8, State.afterPulls, Cpu.pulled_stackUp]
  exact State.readByte_of_storeByte h

theorem State.pull8_of_pullByte (h : pullByte nw s 1 = some lo) :
    s.pull8 nw = { v := lo, st := s.afterPulls nw 1 lo } := by
  rw [← State.pull8_afterPulls h s.bus.latch, State.afterPulls_zero]

theorem State.pull16_of_pullByte (h1 : pullByte nw s 1 = some lo) (h2 : pullByte nw s 2 = some hi) :
    s.pull16 nw = { v := mkWord hi lo, st := s.afterPulls nw 2 hi } := by
  rw [State.pull16, State.pull8_of_pullByte h1]
  dsimp only
  rw [State.pull8_afterPulls h2]

theorem State.pull24_of_pullByte (h1 : pullByte nw s 1 = some lo) (h2 : pullByte nw s 2 = some hi)
    (h3 : pullByte nw s 3 = some bk) :
    s.pull24 nw = { v := mkAddr bk (mkWord hi lo), st := s.afterPulls nw 3 bk } := by
  rw [State.pull24, State.pull16_of_pullByte h1 h2]
  dsimp only
  rw [State.pull8_afterPulls h3]

end

/-! Pointers and fetches. -/
section
variable {s : State} {base : Word} {lo hi bk v : Byte}

theorem State.addrOf_bank0_zero (s : State) (base : Word) : s.addrOf (.bank0 base) 0 = mkAddr 0 base :=
  congrArg (mkAddr 0) (BitVec.add_zero base)

theorem State.addrOf_prog_zero (s : State) (base : Word) : s.addrOf (.prog base) 0 = mkAddr s.cpu.pb base :=
  congrArg (mkAddr s.cpu.pb) (BitVec.add_zero base)

theorem State.load16_bank0_of_word2 (h : word2 s.bus 0 base lo hi) :
    s.load16 (.bank0 base) = { v := mkWord hi lo, st := latched s hi } :=
  State.load16_of_storeByte (l := .bank0 base) (s.addrOf_bank0_zero base ▸ h.1) h.2

theorem State.load16_prog_of_word2 (h : word2 s.bus s.cpu.pb base lo hi) :
    s.load16 (.prog base) = { v := mkWord hi lo, st := latched s hi } :=
  State.load16_of_storeByte (l := .prog base) (s.addrOf_prog_zero base ▸ h.1) h.2

theorem State.load24_bank0_of_word2 (h : word2 s.bus 0 base lo hi) (hbk : s.bus.storeByte (mkAddr 0 (base + 2)) = some bk) :
    s.load24 (.bank0 base) = { v := mkAddr bk (mkWord hi lo), st := latched s bk } :=
  State.load24_of_storeByte (l := .bank0 base) (s.addrOf_bank0_zero base ▸ h.1) h.2 hbk

/-- The state when a byte `v` has been fetched. -/
def State.afterFetch (s : State) (v : Byte) : State := (latched s v).jump (s.cpu.pc + 1)

@[simp] theorem State.afterFetch_x (s : State) (v : Byte) : (s.afterFetch v).cpu.x = s.cpu.x := rfl

/-- A fetch of a byte in a store (30_encoding.md R143). -/
theorem State.fetch8_of_storeByte (h : s.bus.storeByte (mkAddr s.cpu.pb s.cpu.pc) = some v) :
    s.fetch8 = { v := v, st := s.afterFetch v } := by
  rw [State.fetch8, State.readByte_of_storeByte h]
  rfl

end

/-! Bytes pushed to WRAM and pulled again. -/

/-- Within 256 bytes the stack does not come round to a slot again, in either mode. -/
theorem stackDown_injective (nw : Bool) (c : Cpu) {j k : Nat} (hj : j < 0x100) (hk : k < 0x100)
    (h : stackDown nw c j = stackDown nw c k) : j = k := by
  unfold stackDown at h
  split at h
  · have hl := congrArg loByte h
    rw [loByte_mkWord, loByte_mkWord] at hl
    bv_omega
  · bv_omega

/-- Pulls go back over the slots that were pushed. -/
theorem stackUp_of_stackDown {nw : Bool} {c d : Cpu} {j k : Nat} (hs : d.s = stackDown nw c (j + k)) (he : d.e = c.e) :
    stackUp nw d k = stackDown nw c j := by
  unfold stackUp
  rw [he, hs]
  unfold stackDown
  split
  · rw [hiByte_mkWord, loByte_mkWord, BitVec.ofNat_add, ← BitVec.sub_sub, BitVec.sub_add_cancel]
  · rw [BitVec.ofNat_add, ← BitVec.sub_sub, BitVec.sub_add_cancel]

/-- A slot in the WRAM of bank 0 selects its own byte there. -/
theorem busTarget_slot (b : Bus) {off : Word} (h : off.toNat ≤ 0x1FFF) :
    busTarget b.cfg b.cart (mkAddr 0 off) = .wram off.toNat := busTarget_lowWram _ _ (.inl (by decide)) h

/-- From `s` to `t` the bytes `vs` have been pushed, the first of the list first, and they lie in their slots. -/
structure State.Stacked (nw : Bool) (s t : State) (vs : List Byte) : Prop extends State.Pushes nw vs.length s t where
  storesWf : t.bus.StoresWf
  stored : ∀ j < vs.length, t.bus.storeByte (mkAddr 0 (stackDown nw s.cpu j)) = vs[j]?

namespace State.Stacked
variable {nw : Bool} {s t u : State} {vs : List Byte}

theorem refl (nw : Bool) (w : s.bus.StoresWf) : State.Stacked nw s s [] :=
  ⟨.refl nw s, w, fun _ h => absurd h (Nat.not_lt_zero _)⟩

theorem reads (h : State.Stacked nw s t vs) (hr : t.bus.Reads u.bus) (hs : u.cpu.s = t.cpu.s) (he : u.cpu.e = t.cpu.e) :
    State.Stacked nw s u vs :=
  ⟨h.toPushes.reads hr hs he, hr.storesWf h.storesWf, fun j hj => (hr.storeByte _).trans (h.stored j hj)⟩

/-- A push to a slot in WRAM leaves the slots before it alone. -/
theorem pushByte (h : State.Stacked nw s t vs) (hlen : vs.length < 0x100)
    (hlow : ∀ j ≤ vs.length, (stackDown nw s.cpu j).toNat ≤ 0x1FFF) (v : Byte) :
    State.Stacked nw s (pushByte nw t v) (vs ++ [v]) := by
  have target {j : Nat} (hj : j ≤ vs.length) := busTarget_slot t.bus (hlow j hj)
  rw [← State.push8_eq_pushByte]
  refine ⟨List.length_append ▸ h.toPushes.push8 v, (t.push8_keeps nw v).bus.storesWf h.storesWf, fun j hj => ?_⟩
  change (t.bus.write (mkAddr 0 t.cpu.s) v).storeByte _ = _
  rw [h.stack]
  rcases Nat.lt_succ_iff_lt_or_eq.mp (List.length_append ▸ hj) with hj | rfl
  · have hne : busTarget t.bus.cfg t.bus.cart (mkAddr 0 (stackDown nw s.cpu j)) ≠
        busTarget t.bus.cfg t.bus.cart (mkAddr 0 (stackDown nw s.cpu vs.length)) := by
      rw [target hj.le, target le_rfl]
      intro e
      exact hj.ne (stackDown_injective nw s.cpu (hj.trans hlen) hlen (BitVec.eq_of_toNat_eq (Target.wram.inj e)))
    rw [Bus.storeByte_write_ne (by rw [target le_rfl]; rfl) hne, h.stored j hj, List.getElem?_append_left hj]
  · rw [Bus.storeByte_write_self h.storesWf (by rw [target le_rfl]; rfl), List.getElem?_concat_length]

theorem pushBytes (h : State.Stacked nw s t vs) (ws : List Byte) (hlen : (vs ++ ws).length ≤ 0x100)
    (hlow : ∀ j < (vs ++ ws).length, (stackDown nw s.cpu j).toNat ≤ 0x1FFF) :
    State.Stacked nw s (pushBytes nw t ws) (vs ++ ws) := by
  induction ws generalizing t vs with
  | nil => rwa [List.append_nil]
  | cons w ws ih =>
    rw [List.append_cons] at hlen hlow ⊢
    refine ih (h.pushByte ?_ (fun j hj => hlow j ?_) w) hlen hlow
    all_goals
      simp only [List.length_append, List.length_singleton] at *
      omega

/-- The pulled bytes are the pushed ones, the last first. -/
theorem pullByte_eq (h : State.Stacked nw s t vs) {j k : Nat} (hk : 0 < k) (hjk : j + k = vs.length) :
    pullByte nw t k = vs[j]? := by
  rw [pullByte, stackUp_of_stackDown (hjk ▸ h.stack) h.mode, h.stored j (by omega)]

/-- When all is pulled S is as before. -/
theorem stackUp_length (h : State.Stacked nw s t vs) : stackUp nw t.cpu vs.length = s.cpu.s := by
  rw [stackUp_of_stackDown (j := 0) (by rw [h.stack, Nat.zero_add]) h.mode, stackDown_zero]

end State.Stacked
end Sys2Proof.Machine
end

section
/-! Branches, jumps, calls and returns (45_control.md R280 to R297). -/
namespace Sys2Proof.Machine
open Sys2Proof.Claims

theorem State.branch_eq (s : State) (taken : Bool) (rel : Byte) :
    s.branch taken rel = s.jump (if taken then s.cpu.pc + sext rel else s.cpu.pc) := by
  cases taken <;> rfl

/-- Every conditional branch tests its flag (45_control.md R281 to R288). -/
theorem exec_of_branchForm {i : Instr} {k : Nat} {want : Bool} {rel : Byte} (h : branchForm i = some (k, want, rel)) (s : State) :
    exec i s = .next (s.branch (s.cpu.p.getLsbD k == want) rel) := by
  cases i with
  | bpl _ | bvc _ | bcc _ | bne _ =>
    cases h
    rw [beq_false]
    rfl
  | bmi _ | bvs _ | bcs _ | beq _ =>
    cases h
    rw [beq_true]
    rfl
  | _ => cases h

/-! Returns. -/
section
variable {lo hi bk : Byte}

/-- RTS pulls a word from stores (45_control.md R295). -/
theorem State.returnNear_of_pullByte (s : State) (h1 : pullByte false s 1 = some lo) (h2 : pullByte false s 2 = some hi) :
    s.returnNear = { latched s hi with cpu := { s.cpu with s := stackUp false s.cpu 2, pc := mkWord hi lo + 1 } } := by
  rw [State.returnNear, State.pull16_of_pullByte h1 h2]
  rfl

/-- RTL pulls a word and a bank from stores (45_control.md R296). -/
theorem State.returnLong_of_pullByte (s : State) (h1 : pullByte (newNoWrap s) s 1 = some lo)
    (h2 : pullByte (newNoWrap s) s 2 = some hi) (h3 : pullByte (newNoWrap s) s 3 = some bk) :
    s.returnLong = page1 (newNoWrap s) { latched s bk with cpu := { s.cpu with
      s := stackUp (newNoWrap s) s.cpu 3, pb := bk, pc := mkWord hi lo + 1 } } := by
  rw [State.returnLong, s.noWrap_eq_newNoWrap, State.pull24_of_pullByte h1 h2 h3, State.endNoWrap_eq_page1, State.jumpLong]
  simp only [bankOf_mkAddr, offOf_mkAddr]
  rfl

end

/-! A return from bytes pushed before. -/
section
variable {s t : State} {v : Word}

/-- RTS with a word pushed goes to the offset after it. -/
theorem State.Stacked.exec_rts (h : State.Stacked false s t [hiByte v, loByte v]) :
    ∃ u, exec .rts t = .next u ∧ u.cpu = { t.cpu with s := s.cpu.s, pc := v + 1 } := by
  have hlo : pullByte false t 1 = some (loByte v) := h.pullByte_eq (j := 1) Nat.one_pos rfl
  have hhi : pullByte false t 2 = some (hiByte v) := h.pullByte_eq (j := 0) Nat.two_pos rfl
  have hs : stackUp false t.cpu 2 = s.cpu.s := h.stackUp_length
  refine ⟨_, congrArg Host.Outcome.next (t.returnNear_of_pullByte hlo hhi), ?_⟩
  rw [hs, mkWord_hi_lo]

/-- RTL with a bank and a word pushed goes to the offset after the word, in that bank. -/
theorem State.Stacked.exec_rtl {b : Byte} (h : State.Stacked false s t [b, hiByte v, loByte v]) (hnw : newNoWrap s = false) :
    ∃ u, exec .rtl t = .next u ∧ u.cpu = { t.cpu with s := s.cpu.s, pb := b, pc := v + 1 } := by
  have hnw : newNoWrap t = false := (congrArg Config.emuStackNewOpsNoWrap h.bus.cfg).trans hnw
  have hlo : pullByte false t 1 = some (loByte v) := h.pullByte_eq (j := 2) Nat.one_pos rfl
  have hhi : pullByte false t 2 = some (hiByte v) := h.pullByte_eq (j := 1) Nat.two_pos rfl
  have hbk : pullByte false t 3 = some b := h.pullByte_eq (j := 0) (by decide) rfl
  have hs : stackUp false t.cpu 3 = s.cpu.s := h.stackUp_length
  rw [← hnw] at hlo hhi hbk
  refine ⟨_, congrArg Host.Outcome.next (t.returnLong_of_pullByte hlo hhi hbk), ?_⟩
  rw [hnw, hs, mkWord_hi_lo]
  rfl

end
end Sys2Proof.Machine

namespace Sys2Proof.Proofs
open Sys2Proof.Machine Sys2Proof.Claims

/-- Settles O42: each conditional branch tests its bit of P, and displacement -2 takes back the length of the instruction. -/
theorem branches : Obligations.Branches := by
  refine ⟨fun i k want rel s hi => ?conditional, fun _ _ => rfl, fun _ _ => rfl, fun pc => ?self⟩
  case conditional =>
    rw [exec_of_branchForm hi s, State.branch_eq]
    simp only [beq_iff_eq]
    rfl
  case self =>
    have back : (2 : Word) + sext 0xFE = 0#16 := by decide
    rw [BitVec.add_assoc, back, BitVec.add_zero]

/-- Settles O43: a pointer in stores is read with the latch alone changed. -/
theorem jumps : Obligations.Jumps := by
  intro s addr long lo hi bk
  refine ⟨rfl, fun hptr => ?ind, fun hptr => ?indexed, rfl, fun hptr hbk => ?long⟩
  all_goals apply congrArg Host.Outcome.next
  case ind =>
    rw [State.jumpThrough, State.load16_bank0_of_word2 hptr]
    rfl
  case indexed =>
    rw [State.jumpThrough, State.load16_prog_of_word2 hptr]
    rfl
  case long =>
    rw [State.jumpLongThrough, State.load24_bank0_of_word2 hptr hbk, State.jumpLong]
    simp only [bankOf_mkAddr, offOf_mkAddr]
    rfl

/-- Settles O44: after the pushes the late operand byte and the pointer are read from the stores. -/
theorem calls : Obligations.Calls := by
  intro s
  refine ⟨fun addr => ?jsr, fun addr b lo hi => ?indexed, fun long bk => ?jsl⟩
  case jsr =>
    apply congrArg Host.Outcome.next
    rw [State.callNear, State.push16_eq_pushWord]
    rfl
  case indexed =>
    intro t hb hptr
    apply congrArg Host.Outcome.next
    have hpush : s.push16 s.noWrap s.cpu.pc = t := s.push16_eq_pushWord ..
    have hfetch : t.fetch8 = _ := State.fetch8_of_storeByte hb
    have hload : (t.afterFetch b).load16 (.prog (mkWord b (loByte addr) + t.cpu.x)) = _ := State.load16_prog_of_word2 hptr
    have hnw : t.noWrap = s.noWrap := (hpush ▸ s.push16_keeps .. : s.Keeps t).noWrap
    simp only [State.callIndexed, hpush, hfetch, State.afterFetch_x, hload]
    exact congrArg (page1 · _) hnw
  case jsl =>
    intro t hbk
    apply congrArg Host.Outcome.next
    have hpush : s.push8 s.noWrap s.cpu.pb = t := s.push8_eq_pushByte ..
    have hfetch : t.fetch8 = _ := State.fetch8_of_storeByte hbk
    have hnw : ((t.afterFetch bk).push16 s.noWrap s.cpu.pc).noWrap = s.noWrap :=
      (State.push16_keeps ..).noWrap.trans (hpush ▸ s.push8_keeps .. : s.Keeps t).noWrap
    have hpc : (t.afterFetch bk).cpu.pc - 1 = s.cpu.pc := add_sub_cancel_right s.cpu.pc 1
    simp only [State.callLong, hpush, hfetch, hpc]
    refine (congrArg (page1 · _) hnw).trans ?_
    rw [State.push16_eq_pushWord, State.jumpLong, bankOf_mkAddr, offOf_mkAddr]
    rfl

/-- Settles O45: each return pulls its bytes, which lie in stores. -/
theorem returns : Obligations.Returns := fun s _ _ _ =>
  ⟨fun h1 h2 => congrArg Host.Outcome.next (s.returnNear_of_pullByte h1 h2),
    fun h1 h2 h3 => congrArg Host.Outcome.next (s.returnLong_of_pullByte h1 h2 h3)⟩

/-- Settles O46: the bytes the call pushed are in their slots when the return pulls them. -/
theorem callThenReturn : Obligations.CallThenReturn := by
  intro s w hlow
  obtain ⟨jsr, -, jsl⟩ := calls s
  have hbase := State.Stacked.refl false w
  refine ⟨fun addr => ?near, fun long bk hnw hbk hne => ?long⟩
  case near =>
    have hpush := hbase.pushBytes [hiByte (s.cpu.pc - 1), loByte (s.cpu.pc - 1)] (by simp)
      fun j hj => hlow j (Nat.lt_succ_of_lt hj)
    have hcall : State.Stacked false s ((pushWord false s (s.cpu.pc - 1)).jump addr) _ := hpush.reads (.refl _) rfl rfl
    obtain ⟨u, hu, hcpu⟩ := hcall.exec_rts
    refine ⟨_, u, jsr addr, rfl, hu, hcpu.trans ?_⟩
    rw [BitVec.sub_add_cancel]
    rfl
  case long =>
    let p := pushBytes false s [s.cpu.pb]
    let q := pushWord false (latched p bk) s.cpu.pc
    have hbank : State.Stacked false s p [s.cpu.pb] := hbase.pushBytes [s.cpu.pb] (by simp)
      fun j hj => hlow j (Nat.lt_succ_of_lt (Nat.lt_succ_of_lt hj))
    have hlate : p.bus.storeByte (mkAddr s.cpu.pb s.cpu.pc) = some bk := by
      have hram := busTarget_slot s.bus (stackDown_zero false s.cpu ▸ hlow 0 (by decide))
      exact (Bus.storeByte_write_ne (by rw [hram]; rfl) hne _).trans hbk
    have hfetch : State.Stacked false s (latched p bk) [s.cpu.pb] := hbank.reads rfl rfl rfl
    have hpush := hfetch.pushBytes [hiByte s.cpu.pc, loByte s.cpu.pc] (by simp) hlow
    have hcall : State.Stacked false s (q.withCpu { q.cpu with pb := bk, pc := offOf long }) _ := hpush.reads (.refl _) rfl rfl
    rw [hnw] at jsl
    obtain ⟨u, hu, hcpu⟩ := hcall.exec_rtl hnw
    exact ⟨_, u, jsl long bk hlate, rfl, rfl, hu, hcpu⟩

end Sys2Proof.Proofs
end

section
/-! Pushes and pulls of a register (46_stack.md R310 to R326). -/
namespace Sys2Proof.Machine
open Sys2Proof.Claims

/-! A pulled value: its width's bytes alone are written, and a pulled status byte is `SetP` in the statements' words. -/

theorem written_trunc (w : Width) (old v : Word) : written w old (w.trunc v) = written w old v := by
  cases w with
  | b8 => rw [written, written, Width.trunc_b8, loByte_zext]
  | b16 => rfl

theorem nz_trunc (p : Byte) (w : Width) (v : Word) : nz p w (w.trunc v) = nz p w v := by
  have hmsb : w.msb (w.trunc v) = w.msb v := by
    rw [Width.msb_eq_decide, Width.toNat_trunc, Nat.mod_mod, ← Width.msb_eq_decide]
  rw [nz_eq_setNZ, nz_eq_setNZ, setNZ, setNZ, hmsb, Width.trunc_trunc]

/-- `SetP` (10_state.md R49): M and X are bits 5 and 4 of P. -/
theorem Cpu.setP_eq_setStatus (c : Cpu) (v : Byte) : c.setP v = setStatus c v := by
  have hp : withFlag (withFlag v .m true) .x true = v ||| 0x30 := BitVec.or_assoc v (Flag.mask .m) (Flag.mask .x)
  rw [Cpu.setP, hp]
  rfl

theorem setStatus_withS (c : Cpu) (sp : Word) (v : Byte) : setStatus { c with s := sp } v = { setStatus c v with s := sp } := by
  unfold setStatus
  dsimp only
  split <;> split <;> rfl

/-! Pushes. -/

/-- A push at a width that a flag of P gives (46_stack.md R311 to R313). -/
theorem State.pushWidth_eq (s : State) (narrow : Bool) (v : Word) :
    s.pushWidth (if narrow then .b8 else .b16) v = if narrow then pushBytes false s [loByte v] else pushWord false s v := by
  cases narrow with
  | true => exact s.push8_eq_pushByte false (loByte v)
  | false => exact s.push16_eq_pushWord false v

theorem State.pushNew_eq (s : State) (v : Word) : s.pushNew v = page1 (newNoWrap s) (pushWord (newNoWrap s) s v) := by
  have hnw : (s.push16 s.noWrap v).noWrap = s.noWrap := (s.push16_keeps _ _).noWrap
  rw [State.pushNew, State.endNoWrap_eq_page1, ← State.noWrap_eq_newNoWrap, hnw, State.push16_eq_pushWord]
  rfl

theorem State.load16_dirN_of_word2 {s : State} {off : Word} {lo hi : Byte} (h : word2 s.bus 0 (s.cpu.d + off) lo hi) :
    s.load16 (.dirN off) = { v := mkWord hi lo, st := latched s hi } := by
  obtain ⟨hlo, hhi⟩ := h
  refine State.load16_of_storeByte ?_ ?_ <;> rw [State.addrOf_dirN]
  · rwa [BitVec.add_zero]
  · exact hhi

/-! Pulls. -/

theorem State.m_eq_mWidth (s : State) : s.cpu.m = mWidth s := rfl

theorem State.xw_eq_xWidth (s : State) : s.cpu.xw = xWidth s := rfl

@[simp] theorem State.afterPulls_m (s : State) (nw : Bool) (k : Nat) (v : Byte) : (s.afterPulls nw k v).cpu.m = s.cpu.m := rfl

@[simp] theorem State.afterPulls_xw (s : State) (nw : Bool) (k : Nat) (v : Byte) : (s.afterPulls nw k v).cpu.xw = s.cpu.xw := rfl

theorem State.pullWidth_of_pulledWord {s : State} {w : Width} {lo hi : Byte} (h : pulledWord false s w lo hi) :
    s.pullWidth w = { v := w.trunc (mkWord hi lo), st := s.afterPulls false (byteCount w) (lastPulled w lo hi) } := by
  obtain ⟨hlo, hhi⟩ := h
  cases w with
  | b8 => rw [State.pullWidth, State.pull8_of_pullByte hlo, Width.trunc_b8, loByte_mkWord]; rfl
  | b16 => exact State.pull16_of_pullByte hlo (hhi rfl)

end Sys2Proof.Machine

namespace Sys2Proof.Proofs
open Sys2Proof.Machine Sys2Proof.Claims

/-- Settles O47: each pushes at a width, a byte, or a word as a `NoWrapOp`; PEI first loads its word, which changes the latch alone. -/
theorem pushes : Obligations.Pushes := by
  intro s
  have byte (v : Byte) : (.next (s.push8 false v) : Out) = .next (pushBytes false s [v]) :=
    congrArg _ (s.push8_eq_pushByte false v)
  have new (v : Word) : (.next (s.pushNew v) : Out) = .next (page1 (newNoWrap s) (pushWord (newNoWrap s) s v)) :=
    congrArg _ (s.pushNew_eq v)
  refine ⟨congrArg _ (s.pushWidth_eq (fM s) _), congrArg _ (s.pushWidth_eq (fX s) _), congrArg _ (s.pushWidth_eq (fX s) _),
    byte _, byte _, byte _, new _, fun _ => new _, fun _ => new _, fun dp lo hi hword => ?pei⟩
  case pei =>
    apply congrArg Host.Outcome.next
    rw [State.pushIndirect, State.load16_dirN_of_word2 hword]
    exact State.pushNew_eq ..

/-- Settles O48: after the pull, which moves S and the latch alone, the value is written to its register as a transfer writes it. -/
theorem pulls : Obligations.Pulls := by
  intro s lo hi
  refine ⟨fun h => ?pla, fun h => ?plx, fun h => ?ply, fun h => ?plp, fun h => ?plb, fun h => ?pld⟩
  all_goals apply congrArg Host.Outcome.next
  case pla | plx | ply =>
    simp only [← State.m_eq_mWidth, ← State.xw_eq_xWidth] at h ⊢
    simp only [State.pullAcc, State.pullX, State.pullY, State.pullWidth_of_pulledWord h, Cpu.setAcc, Cpu.setX, Cpu.setY,
      Cpu.setNZ_eq_nz, State.afterPulls_m, State.afterPulls_xw, ← written_eq_merge, written_trunc, nz_trunc]
    rfl
  case plp =>
    rw [State.pullP, State.pull8_of_pullByte h, Cpu.setP_eq_setStatus]
    exact congrArg (State.withCpu _) (setStatus_withS ..)
  case plb =>
    rw [State.pullBank, State.pull8_of_pullByte h, Cpu.setNZ_eq_nz]
    rfl
  case pld =>
    obtain ⟨hlo, hhi⟩ := h
    rw [State.pullDirect, State.noWrap_eq_newNoWrap, State.pull16_of_pullByte hlo (hhi rfl), Cpu.setNZ_eq_nz]
    rfl

end Sys2Proof.Proofs
end

section
/-! Flags, modes, software interrupts and the return from an interrupt (47_status_system.md R330 to R346). -/
namespace Sys2Proof.Machine
open Sys2Proof.Claims

/-! An interrupt entry (60_exceptions.md R401 to R404). -/

theorem IntKind.vector_eq_vectorOffset (k : IntKind) (e : Bool) : k.vector e = vectorOffset k e := by
  cases k <;> cases e <;> rfl

theorem IntKind.hardware_eq (k : IntKind) : k.hardware = (k == .nmi || k == .irq) := by
  cases k <;> rfl

theorem State.pushFrame_eq_pushBytes (k : IntKind) (s : State) :
    s.pushFrame k = pushBytes false s (entryBytes k s.cpu) := by
  simp only [State.pushFrame, IntKind.pushedP, IntKind.hardware_eq, entryBytes, State.push16_eq_pushWord,
    State.push8_eq_pushByte]
  cases s.cpu.e <;> rfl

/-- Pushes move S and no other register (40_addressing.md R196). -/
theorem pushBytes_cpu (nw : Bool) (s : State) (vs : List Byte) :
    (pushBytes nw s vs).cpu = { s.cpu with s := stackDown nw s.cpu vs.length } := by
  induction vs using List.reverseRecOn with
  | nil => rw [pushBytes, List.foldl_nil, List.length_nil, stackDown_zero]
  | append_singleton vs v ih =>
    have hlast : pushBytes nw s (vs ++ [v]) = (pushBytes nw s vs).push8 nw v := by
      rw [State.push8_eq_pushByte]
      exact List.foldl_append
    have hs : ((pushBytes nw s vs).cpu.pushed nw).s = stackDown nw s.cpu (vs ++ [v]).length := by
      rw [List.length_append]
      exact Cpu.pushed_s_of_stackDown (by rw [ih]) (by rw [ih])
    rw [hlast, State.push8_cpu, ← hs, Cpu.pushed, ih]
    split <;> rfl

/-- An entry when its bytes are pushed and its vector is not yet read (60_exceptions.md R402). -/
def State.entered (k : IntKind) (s : State) : State :=
  (pushBytes false s (entryBytes k s.cpu)).withCpu { s.cpu with
    s := stackDown false s.cpu (entryBytes k s.cpu).length, p := (s.cpu.p &&& 0xF7) ||| 0x04, pb := 0 }

theorem withFlag_i_d (p : Byte) : withFlag (withFlag p .i true) .d false = (p &&& 0xF7) ||| 0x04 :=
  BitVec.and_or_distrib_right

/-- After the pushes an entry reads its vector into PC (60_exceptions.md R402, R404). -/
theorem State.interrupt_eq (k : IntKind) (s : State) :
    s.interrupt k = ((s.entered k).load16 (.bank0 (vectorOffset k s.cpu.e))).st.jump
      ((s.entered k).load16 (.bank0 (vectorOffset k s.cpu.e))).v := by
  have hpushed : (s.pushFrame k).withCpu { ((s.pushFrame k).cpu.setFlag .i true).setFlag .d false with pb := 0 } =
      s.entered k := by
    rw [State.pushFrame_eq_pushBytes, pushBytes_cpu, State.entered, ← withFlag_i_d]
    rfl
  rw [State.interrupt, hpushed, IntKind.vector_eq_vectorOffset]
  rfl

/-- Every entry leaves what the rules say (60_exceptions.md R402 to R404). -/
theorem State.interrupt_entryOf (k : IntKind) (s : State) : EntryOf k s (s.interrupt k) where
  cpu := by
    rw [State.interrupt_eq]
    rfl
  bus := by
    rw [State.interrupt_eq]
    exact ((s.entered k).load16_reads _).bus
  pc := fun lo hi hvector => by
    have hload : (s.entered k).load16 (.bank0 (vectorOffset k s.cpu.e)) = _ := State.load16_bank0_of_word2 hvector
    rw [State.interrupt_eq, hload]
    exact ⟨rfl, rfl⟩
  frame := (s.interrupt_keeps k).frame
  resetRequest := (s.interrupt_keeps k).resetRequest

/-! The return (47_status_system.md R344). -/

@[simp] theorem setStatus_s (c : Cpu) (v : Byte) : (setStatus c v).s = c.s := by
  rw [← Cpu.setP_eq_setStatus, Cpu.setP_s]

@[simp] theorem setStatus_e (c : Cpu) (v : Byte) : (setStatus c v).e = c.e := by
  rw [← Cpu.setP_eq_setStatus, Cpu.setP_e]

@[simp] theorem stackUp_setStatus (nw : Bool) (c : Cpu) (v : Byte) (k : Nat) : stackUp nw (setStatus c v) k = stackUp nw c k := by
  rw [stackUp, setStatus_s, setStatus_e, stackUp]

/-- A state after `SetP` (10_state.md R49). -/
def State.withStatus (s : State) (v : Byte) : State := s.withCpu (setStatus s.cpu v)

/-- P moves no stack slot. -/
theorem State.pullByte_withStatus (s : State) (nw : Bool) (v : Byte) (k : Nat) :
    pullByte nw (s.withStatus v) k = pullByte nw s k := by
  simp only [pullByte, State.withStatus, State.withCpu, stackUp_setStatus]

theorem State.withStatus_afterPulls (s : State) (nw : Bool) (p : Byte) (k : Nat) (v : Byte) :
    (s.withStatus p).afterPulls nw k v = { latched s v with cpu := { setStatus s.cpu p with s := stackUp nw s.cpu k } } := by
  simp only [State.afterPulls, State.withStatus, State.withCpu, stackUp_setStatus, latched]

/-- RTI when it has pulled P and PC (47_status_system.md R344). -/
def State.returnedPc (s : State) : State := (s.pullP.pull16 false).st.jump (s.pullP.pull16 false).v

theorem State.returnFromInterrupt_of_emulation {s : State} (h : s.returnedPc.cpu.e = true) :
    s.returnFromInterrupt = s.returnedPc := if_pos h

theorem State.returnFromInterrupt_of_native {s : State} (h : s.returnedPc.cpu.e = false) :
    s.returnFromInterrupt = (s.returnedPc.pull8 false).st.withCpu
      { (s.returnedPc.pull8 false).st.cpu with pb := (s.returnedPc.pull8 false).v } := if_neg (ne_true_of_eq_false h)

section
variable {s : State} {nw : Bool} {k : Nat} {p lo hi v : Byte}

theorem State.pullP_of_pullByte (h : pullByte false s 1 = some p) : s.pullP = (s.withStatus p).afterPulls false 1 p := by
  rw [State.pullP, State.pull8_of_pullByte h, Cpu.setP_eq_setStatus, State.withStatus_afterPulls]
  exact congrArg (State.withCpu _) (setStatus_withS ..)

theorem State.returnedPc_of_pullByte (hp : pullByte false s 1 = some p) (hlo : pullByte false s 2 = some lo)
    (hhi : pullByte false s 3 = some hi) :
    s.returnedPc = ((s.withStatus p).afterPulls false 3 hi).jump (mkWord hi lo) := by
  rw [← s.pullByte_withStatus false p] at hlo hhi
  rw [State.returnedPc, State.pullP_of_pullByte hp, State.pull16, State.pull8_afterPulls hlo]
  dsimp only
  rw [State.pull8_afterPulls hhi]

/-- PC moves no stack slot: a pull of PB after those of P and PC. -/
theorem State.pull8_after_jump (h : pullByte nw s (k + 1) = some v) (last : Byte) (pc : Word) :
    ((s.afterPulls nw k last).jump pc).pull8 nw = { v := v, st := (s.afterPulls nw (k + 1) v).jump pc } :=
  State.pull8_afterPulls (s := s.jump pc) h last

end

/-! XCE (47_status_system.md R339). -/

theorem withFlag_m_x (p : Byte) : withFlag (withFlag p .m true) .x true = p ||| 0x30 :=
  BitVec.or_assoc p (Flag.mask .m) (Flag.mask .x)

/-- XCE into native mode. -/
theorem Cpu.xce_of_clear {c : Cpu} (h : c.flag .c = false) : c.xce = { c with e := false, p := putC c.p c.e } := by
  rw [Cpu.xce, h, putC_eq_withFlag]
  rfl

/-- XCE into emulation mode, which forces what 10_state.md R43 asks. -/
theorem Cpu.xce_of_set {c : Cpu} (h : c.flag .c = true) : c.xce = { c with
    e := true, p := putC c.p c.e ||| 0x30, x := zext (loByte c.x), y := zext (loByte c.y), s := mkWord 0x01 (loByte c.s) } := by
  rw [Cpu.xce, h, putC_eq_withFlag, ← withFlag_m_x]
  rfl

end Sys2Proof.Machine

namespace Sys2Proof.Proofs
open Sys2Proof.Machine Sys2Proof.Claims

/-- Settles O18: exec of either takes the interrupt of its kind, which neither the signature nor P.I bears on. -/
theorem softwareInterrupts : Obligations.SoftwareInterrupts := fun _ s =>
  ⟨⟨_, rfl, s.interrupt_entryOf .brk⟩, ⟨_, rfl, s.interrupt_entryOf .cop⟩⟩

/-- Settles O19: after P, `SetP` moves no slot of the stack, so PC and, in native mode, PB come from the slots above. -/
theorem returnFromInterrupt : Obligations.ReturnFromInterrupt := by
  intro s p lo hi bk hp hlo hhi
  have hpc := State.returnedPc_of_pullByte hp hlo hhi
  have he : s.returnedPc.cpu.e = s.cpu.e := hpc ▸ setStatus_e s.cpu p
  refine ⟨fun hemu => ?emulation, fun hnative hbk => ?native⟩
  all_goals apply congrArg Host.Outcome.next
  case emulation =>
    rw [State.returnFromInterrupt_of_emulation (he.trans hemu), hpc, State.withStatus_afterPulls]
    rfl
  case native =>
    rw [← s.pullByte_withStatus false p] at hbk
    rw [State.returnFromInterrupt_of_native (he.trans hnative), hpc, State.pull8_after_jump hbk, State.withStatus_afterPulls]
    rfl

/-- Settles O49: a flag's write is a mask of P; REP and SEP go through `SetP`, and XCE's mode is the C before it. -/
theorem statusAndWaitInstructions : Obligations.StatusAndWaitInstructions := fun s _ =>
  have ofCpu {c c' : Cpu} (h : c = c') : (.next (s.withCpu c) : Out) = .next { s with cpu := c' } := h ▸ rfl
  ⟨rfl, rfl, rfl, rfl, -- CLC, CLD, CLI, CLV
    rfl, rfl, rfl, -- SEC, SED, SEI
    ofCpu (s.cpu.setP_eq_setStatus _), ofCpu (s.cpu.setP_eq_setStatus _), -- REP, SEP
    fun hc => ofCpu (Cpu.xce_of_clear hc), fun hc => ofCpu (Cpu.xce_of_set hc), -- XCE
    rfl, rfl, rfl, rfl⟩ -- NOP, WDM, WAI, STP

end Sys2Proof.Proofs
end

section
/-! MVN and MVP: one step, and the record of the moves in progress under `moveKeepsDb` (48_block_move.md R350 to R352, log 29). -/
namespace Sys2Proof.Machine
open Sys2Proof.Claims

/-- The bank a move in progress last fetched, where DB is no longer that bank. -/
theorem State.moveDbChanged_of_keeps {s : State} (h : s.bus.cfg.moveKeepsDb = true) :
    s.moveDbChanged = (resumed s).filter (· != s.cpu.db) := if_pos h

theorem State.moveDbChanged_of_overwrites {s : State} (h : s.bus.cfg.moveKeepsDb = false) : s.moveDbChanged = none :=
  if_neg (ne_true_of_eq_false h)

theorem State.moveBank_eq_destination (s : State) (dbk : Byte) : s.moveBank dbk = destination s dbk := by
  unfold State.moveBank destination
  cases hkeeps : s.bus.cfg.moveKeepsDb with
  | false => rw [State.moveDbChanged_of_overwrites hkeeps]; rfl
  | true =>
    rw [State.moveDbChanged_of_keeps hkeeps]
    cases resumed s with
    | none => rfl
    | some k => by_cases hk : k = s.cpu.db <;> simp [Option.filter_some, hk]

/-- The bank that stays recorded is the one a changed DB replaced, else the operand. -/
theorem State.moveDbChanged_getD {s : State} (h : s.bus.cfg.moveKeepsDb = true) (dbk : Byte) :
    s.moveDbChanged.getD dbk = recorded s dbk := by
  rw [State.moveDbChanged_of_keeps h, recorded]
  cases resumed s with
  | none => rfl
  | some k => by_cases hk : k = s.cpu.db <;> simp [Option.filter_some, hk]

/-- A counts down past 0 with the last byte. -/
theorem sub_one_eq_0xFFFF_iff (a : Word) : a - 1 = 0xFFFF ↔ a = 0 := by
  rw [sub_eq_iff_eq_add]
  rfl

theorem recordAfter_of_left {s : State} (hkeeps : s.bus.cfg.moveKeepsDb = true) (ha : s.cpu.a ≠ 0) (dbk : Byte) :
    recordAfter s dbk =
      { opcode := s.cpu.moveOpcode, bank := recorded s dbk } :: s.cpu.moves.filter (·.opcode != s.cpu.moveOpcode) := by
  rw [recordAfter, hkeeps, if_neg Bool.true_eq_false.mp, if_neg ha]
  rfl

theorem State.movesAfter_eq_recordAfter (s : State) (dbk : Byte) :
    s.movesAfter dbk (s.cpu.a - 1 != 0xFFFF) = recordAfter s dbk := by
  unfold State.movesAfter recordAfter
  cases hkeeps : s.bus.cfg.moveKeepsDb with
  | false => rfl
  | true =>
    simp only [State.moveDbChanged_getD hkeeps, bne_iff_ne, ne_eq, sub_one_eq_0xFFFF_iff, ite_not]
    rfl

/-- One step of a block move whose source byte lies in a store (48_block_move.md R350 to R352). -/
theorem State.blockMove_of_storeByte {s : State} {sbk v : Byte} (h : s.bus.storeByte (mkAddr sbk s.cpu.x) = some v)
    (step : Word → Word) (dbk : Byte) :
    s.blockMove (fun w u => w.trunc (step u)) dbk sbk =
      { s with
        bus := (latched s v).bus.write (mkAddr (destination s dbk) s.cpu.y) v
        cpu := { s.cpu with
          a := s.cpu.a - 1
          x := written (xWidth s) s.cpu.x (step s.cpu.x)
          y := written (xWidth s) s.cpu.y (step s.cpu.y)
          db := destination s dbk
          pc := if s.cpu.a = 0 then s.cpu.pc else s.cpu.pc - 3
          moves := recordAfter s dbk } } := by
  have hread : (s.withCpu { s.cpu with db := destination s dbk }).readByte (mkAddr sbk s.cpu.x) = _ :=
    State.readByte_of_storeByte h
  simp only [State.blockMove, State.moveBank_eq_destination, hread, State.movesAfter_eq_recordAfter, sub_one_eq_0xFFFF_iff,
    ← written_trunc (xWidth s) _ (step _), written_eq_merge]
  rfl

/-- After a step that left bytes the move is in progress, so a DB that is no longer its recorded bank is the destination of the
next step (log 29). -/
theorem destination_of_changed {s u : State} {dbk : Byte} (hleft : s.cpu.a ≠ 0) (hs : s.bus.cfg.moveKeepsDb = true)
    (hu : u.bus.cfg.moveKeepsDb = true) (hmoves : u.cpu.moves = recordAfter s dbk)
    (hopcode : u.cpu.moveOpcode = s.cpu.moveOpcode) (hdb : u.cpu.db ≠ recorded s dbk) : destination u dbk = u.cpu.db := by
  have hfind : u.cpu.moves.find? (·.opcode == u.cpu.moveOpcode) =
      some { opcode := s.cpu.moveOpcode, bank := recorded s dbk } := by
    rw [hmoves, hopcode, recordAfter_of_left hs hleft]
    exact List.find?_cons_of_pos (beq_self_eq_true _)
  have hresumed : resumed u = some (recorded s dbk) := congrArg (Option.map MoveRecord.bank) hfind
  rw [destination, hu, hresumed]
  exact if_neg hdb.symm

end Sys2Proof.Machine

namespace Sys2Proof.Proofs
open Sys2Proof.Machine Sys2Proof.Claims

/-- Settles O50: both moves are one step with their own index step; its write is a bus write, and the next step finds the move in
the record. -/
theorem blockMoves : Obligations.BlockMoves := by
  intro s dbk sbk v hv back bank bus
  have mvn : exec (.mvn dbk sbk) s = .next _ := congrArg Host.Outcome.next (State.blockMove_of_storeByte hv (· + 1) dbk)
  have mvp : exec (.mvp dbk sbk) s = .next _ := congrArg Host.Outcome.next (State.blockMove_of_storeByte hv (· - 1) dbk)
  have latch : s.bus.Keeps (latched s v).bus := .of_stores rfl rfl rfl rfl
  refine ⟨mvn, mvp, fun w hram => ?moved, fun hplain a ha => ?kept, fun t db ht hkeeps hleft hdb => ?changed⟩
  case moved => exact Bus.storeByte_write_self (b := (latched s v).bus) (latch.storesWf w) hram v
  case kept =>
    refine Bus.storeByte_write_ne (b := (latched s v).bus) hplain (fun e => ha ?_) v
    exact ⟨_, List.mem_singleton_self _, e.symm⟩
  case changed =>
    obtain ⟨hbus, hmoves, hpb, hpc⟩ : t.bus = bus ∧ t.cpu.moves = recordAfter s dbk ∧ t.cpu.pb = s.cpu.pb ∧
        t.cpu.pc = back := by
      obtain ht | ht := ht
      · obtain rfl := Host.Outcome.next.inj (mvn.symm.trans ht)
        exact ⟨rfl, rfl, rfl, rfl⟩
      · obtain rfl := Host.Outcome.next.inj (mvp.symm.trans ht)
        exact ⟨rfl, rfl, rfl, rfl⟩
    have hreturn : t.cpu.pc + 3 = s.cpu.pc := by
      rw [hpc]
      exact (congrArg (· + 3) (if_neg hleft)).trans (sub_add_cancel _ _)
    have hcfg : t.bus.cfg = s.bus.cfg := hbus ▸ (latch.trans (Bus.write_keeps ..)).cfg
    refine destination_of_changed hleft hkeeps (hcfg ▸ hkeeps) hmoves ?_ hdb
    simp only [Cpu.moveOpcode, hpb, hreturn]

end Sys2Proof.Proofs
end

section
/-! A step of the processor: the order of its checks (60_exceptions.md R405), and the instruction its fetches name
(30_encoding.md R142, R143; 45_control.md R293, R294). -/
namespace Sys2Proof.Machine
open Sys2Proof.Claims

/-! The order of a step. -/
section
variable {s : State}

theorem step_of_noFrame (h : s.frame = none) : step s = s.cpuStep := by
  rw [step, State.machineStep, h]

/-- P.I masks the line (60_exceptions.md R408). -/
theorem State.irqTaken_eq (s : State) : s.irqTaken = (s.bus.plat.timeup && !fI s) := rfl

theorem State.cpuStep_of_reset (hreset : s.resetRequest = true) :
    s.cpuStep = .next ({ s with resetRequest := false }).resetSequence := by
  rw [State.cpuStep, if_pos hreset]

variable (hreset : s.resetRequest = false)
include hreset

theorem State.cpuStep_of_stopped (hrun : s.cpu.run = .stopped) : s.cpuStep = .next s := by
  simp only [State.cpuStep, hreset, hrun, Bool.false_eq_true, if_true, if_false]

theorem State.cpuStep_of_nmi (hrun : s.cpu.run ≠ .stopped) (hnmi : s.bus.nmiPending = true) :
    s.cpuStep = .next ((s.ackNmi.withRun .running).interrupt .nmi) := by
  simp only [State.cpuStep, hreset, hrun, hnmi, Bool.false_eq_true, if_true, if_false]

variable (hnmi : s.bus.nmiPending = false)
include hnmi

theorem State.cpuStep_of_irq (hrun : s.cpu.run ≠ .stopped) (hirq : s.irqTaken = true) :
    s.cpuStep = .next ((s.withRun .running).interrupt .irq) := by
  simp only [State.cpuStep, hreset, hrun, hnmi, hirq, Bool.false_eq_true, if_true, if_false]

variable (hirq : s.irqTaken = false)
include hirq

theorem State.cpuStep_of_waiting (hrun : s.cpu.run = .waiting) :
    s.cpuStep = if s.bus.irqLine then (s.withRun .running).runInstr else .next s := by
  simp only [State.cpuStep, hreset, hrun, hnmi, hirq, Bool.false_eq_true, reduceCtorEq, if_true, if_false]

theorem State.cpuStep_of_running (hrun : s.cpu.run = .running) : s.cpuStep = s.runInstr := by
  simp only [State.cpuStep, hreset, hrun, hnmi, hirq, Bool.false_eq_true, reduceCtorEq, if_false]

end

theorem step_of_ready {s : State} (h : Ready s) : step s = s.runInstr := by
  obtain ⟨hframe, hreset, hrun, hnmi, hmasked⟩ := h
  have hirq : s.irqTaken = false := by
    rw [State.irqTaken_eq]
    cases ht : s.bus.plat.timeup with
    | false => rfl
    | true => rw [hmasked ht]; rfl
  rw [step_of_noFrame hframe, State.cpuStep_of_running hreset hnmi hirq hrun]

/-! The fetches of an instruction. -/

theorem add_ofNat_succ (v : Word) (n : Nat) : v + BitVec.ofNat 16 (n + 1) = v + 1 + BitVec.ofNat 16 n := by
  rw [Nat.add_comm, BitVec.ofNat_add, BitVec.add_assoc]
  rfl

theorem fetched_nil (s : State) : fetched s [] = s := by
  simp [fetched]

theorem fetched_cons (s : State) (v : Byte) (vs : List Byte) : fetched s (v :: vs) = fetched (s.afterFetch v) vs := by
  have hlatch : (v :: vs).getLast?.getD s.bus.latch = vs.getLast?.getD v := by
    rw [List.getLast?_cons, Option.getD_some]
  rw [fetched, List.length_cons, add_ofNat_succ, hlatch]
  rfl

theorem standsAtPc_cons {s : State} {v : Byte} {vs : List Byte} (h : standsAtPc s (v :: vs)) :
    s.bus.storeByte (mkAddr s.cpu.pb s.cpu.pc) = some v ∧ standsAtPc (s.afterFetch v) vs := by
  refine ⟨?_, fun k hk => ?_⟩
  · have h0 := h 0 (by simp)
    rwa [BitVec.add_zero] at h0
  · have hnext := h (k + 1) (Nat.succ_lt_succ hk)
    rw [add_ofNat_succ] at hnext
    exact hnext

/-- Fetching bytes that stand at PB:PC in stores returns them. -/
theorem State.fetchBytes_of_standsAtPc {bs : List Byte} :
    ∀ {s : State}, standsAtPc s bs → State.fetchBytes bs.length s = { bytes := bs, st := fetched s bs } := by
  induction bs with
  | nil => exact fun {s} _ => by rw [fetched_nil]; rfl
  | cons v vs ih =>
    intro s h
    obtain ⟨hv, hvs⟩ := standsAtPc_cons h
    simp only [List.length_cons, State.fetchBytes, State.fetch8_of_storeByte hv, ih hvs, fetched_cons]

theorem State.fetchBytes_bytes_length (n : Nat) : ∀ s : State, (State.fetchBytes n s).bytes.length = n := by
  induction n with
  | zero => exact fun _ => rfl
  | succ n ih => exact fun s => congrArg (· + 1) (ih s.fetch8.st)

/-- The operand bytes of a decoded instruction are all there, and no more of them. -/
theorem decode_cons_eq_ok_nil_iff {m x : Width} {op : Byte} {t : List Byte} {i : Instr} :
    decode m x (op :: t) = .ok (i, []) ↔
      (opcodeRow op).operandBytes m x = t.length ∧ (opcodeRow op).build m x (t.getD 0 0) (t.getD 1 0) (t.getD 2 0) = i := by
  rw [decode_cons_eq_ok_iff, List.drop_eq_nil_iff]
  constructor
  · exact fun ⟨h, hi, h'⟩ => ⟨h.antisymm h', hi⟩
  · exact fun ⟨h, hi⟩ => ⟨h.le, hi, h.ge⟩

/-- An instruction all of whose bytes are fetched first (30_encoding.md R142, R143). -/
theorem State.fetchInstr_of_decode {s : State} {n : Nat} {i : Instr}
    (h : decode s.cpu.m s.cpu.xw (State.fetchBytes n s).bytes = .ok (i, []))
    (hlate : fetchedLate (State.fetchBytes n s).bytes = false) :
    s.fetchInstr = { instr := i, st := (State.fetchBytes n s).st } := by
  cases n with
  | zero => cases h
  | succ n =>
    obtain ⟨hlen, hi⟩ := decode_cons_eq_ok_nil_iff.mp h
    rw [State.fetchBytes_bytes_length] at hlen
    have hop : fetchesLate s.fetch8.v = false := hlate
    simp only [State.fetchInstr, hop, hlen, Bool.false_eq_true, if_false, hi]
    rfl

/-- JSL and JSR (addr,X) have an operand byte to be fetched late. -/
theorem operandBytes_pos_of_fetchesLate {op : Byte} (h : fetchesLate op = true) (m x : Width) :
    0 < (opcodeRow op).operandBytes m x := by
  obtain h | h := Bool.or_eq_true_iff.mp h
  · rw [eq_of_beq h]; exact Nat.succ_pos 2
  · rw [eq_of_beq h]; exact Nat.succ_pos 1

theorem standsAtPc_dropLast {s : State} {bs : List Byte} (h : standsAtPc s bs) : standsAtPc s bs.dropLast := by
  intro k hk
  rw [List.length_dropLast] at hk
  rw [h k (by omega), List.getElem?_dropLast, if_pos hk]

/-- An instruction whose last byte its operation fetches: the fetch looks at that byte (45_control.md R293, R294; log 13). -/
theorem State.fetchInstr_of_fetchedLate {s : State} {bs : List Byte} {i : Instr} (hstands : standsAtPc s bs)
    (h : decode s.cpu.m s.cpu.xw bs = .ok (i, [])) (hlate : fetchedLate bs = true) :
    s.fetchInstr = { instr := i, st := fetched s bs.dropLast } := by
  cases bs with
  | nil => cases h
  | cons op t =>
    obtain ⟨hlen, hi⟩ := decode_cons_eq_ok_nil_iff.mp h
    have hop : fetchesLate op = true := hlate
    have hpos := hlen ▸ operandBytes_pos_of_fetchesLate hop s.cpu.m s.cpu.xw
    obtain ⟨vs, v, rfl⟩ : ∃ vs v, t = vs ++ [v] := ⟨_, _, (List.dropLast_append_getLast (List.ne_nil_of_length_pos hpos)).symm⟩
    have hlast : (fetched s (op :: vs)).bus.peek (mkAddr (fetched s (op :: vs)).cpu.pb (fetched s (op :: vs)).cpu.pc) = v := by
      have hv := hstands (op :: vs).length (by simp)
      rw [← List.cons_append, List.getElem?_concat_length] at hv
      exact congrArg BusRead.v (Bus.read_of_storeByte (b := (fetched s (op :: vs)).bus) hv)
    have hbefore := standsAtPc_dropLast hstands
    rw [← List.cons_append, List.dropLast_concat] at hbefore ⊢
    obtain ⟨hv, hvs⟩ := standsAtPc_cons hbefore
    have hearly : (opcodeRow op).operandBytes s.cpu.m s.cpu.xw - 1 = vs.length := by rw [hlen]; simp
    rw [fetched_cons] at hlast ⊢
    simp only [State.fetchInstr, State.fetch8_of_storeByte hv, hop, if_true, hearly, State.fetchBytes_of_standsAtPc hvs, hlast, hi]

end Sys2Proof.Machine

namespace Sys2Proof.Proofs
open Sys2Proof.Machine Sys2Proof.Claims

/-- Settles O7: each case is one branch of the processor's step, and waking leads to the step of the running state. -/
theorem stepPriority : Obligations.StepPriority := by
  intro s hframe
  have irq {s : State} (ht : s.bus.plat.timeup = true) : s.irqTaken = !fI s := by rw [State.irqTaken_eq, ht, Bool.true_and]
  simp only [step_of_noFrame hframe]
  refine ⟨State.cpuStep_of_reset, State.cpuStep_of_stopped, State.cpuStep_of_nmi, fun hreset hrun hnmi ht hi => ?irq,
    fun hreset hrun hnmi ht => ?asleep, fun hreset hrun hnmi ht hi => ?woken⟩
  case irq => exact State.cpuStep_of_irq hreset hnmi hrun (by rw [irq ht, hi]; rfl)
  case asleep =>
    rw [State.cpuStep_of_waiting hreset hnmi (by rw [State.irqTaken_eq, ht]; rfl) hrun]
    exact if_neg (ne_true_of_eq_false ht)
  case woken =>
    have hmasked : s.irqTaken = false := by rw [irq ht, hi]; rfl
    have hready : Ready (s.withRun .running) := ⟨hframe, hreset, rfl, hnmi, fun _ => hi⟩
    rw [State.cpuStep_of_waiting hreset hnmi hmasked hrun]
    exact (if_pos ht).trans (step_of_ready hready).symm

/-- Settles O6: a ready state's step is `exec` of what it fetches; bytes in stores are what the fetches return, but for a late last
byte, which the fetch looks at in its place. -/
theorem stepRunsDecodedInstruction : Obligations.StepRunsDecodedInstruction := by
  refine ⟨fun s bs i hready hstands hdecode => ?inStores, fun s n i hready hdecode hlate => ?fetchedFirst⟩
  case fetchedFirst => rw [step_of_ready hready, State.runInstr, State.fetchInstr_of_decode hdecode hlate]
  case inStores =>
    rw [step_of_ready hready, State.runInstr, early]
    cases hlate : fetchedLate bs with
    | true => rw [State.fetchInstr_of_fetchedLate hstands hdecode hlate]; rfl
    | false =>
      have hbytes := State.fetchBytes_of_standsAtPc hstands
      have hfetch : s.fetchInstr = { instr := i, st := (State.fetchBytes bs.length s).st } :=
        State.fetchInstr_of_decode (by rwa [hbytes]) (by rwa [hbytes])
      rw [hfetch, hbytes]
      rfl

end Sys2Proof.Proofs
end

section
/-! The frame schedule: the start of a scanline, the agents that act at its end, and that a frame ends (60_exceptions.md R406,
R436, R443, R447). -/
namespace Sys2Proof.Machine
open Sys2Proof.Claims

/-! The start of a scanline, and the steps of a frame. -/

theorem hTimerFires_eq (b : Bus) (f : FrameState) :
    hTimerFires b f = (f.left == f.timerAt && b.plat.hTimerMatches f.line) := by
  simp only [hTimerFires, Platform.hTimerMatches, Platform.hirq, Platform.virq, beq_eq_decide, Bool.and_assoc]

theorem State.startLine_plat (s : State) (y : Nat) :
    (s.startLine y).bus.plat = if s.bus.plat.vTimerMatches y then { s.bus.plat with timeup := true } else s.bus.plat := by
  rw [State.startLine]
  split <;> rfl

/-- The start of a scanline changes of the bus the timer flag and the draws alone. -/
theorem State.startLine_bus (s : State) (y : Nat) :
    (s.startLine y).bus = { s.bus with plat := (s.startLine y).bus.plat, draws := (s.startLine y).bus.draws } := by
  rw [State.startLine]
  split <;> rfl

theorem State.startLine_storeByte (s : State) (y : Nat) (a : Addr) : (s.startLine y).bus.storeByte a = s.bus.storeByte a := by
  rw [State.startLine_bus]
  rfl

/-- A scanline's slice has a step, and the drawn step is one of it (log 9). -/
theorem State.startLine_frame (s : State) (y : Nat) :
    ∃ g, (s.startLine y).frame = some g ∧ g.line = y ∧ 1 ≤ g.timerAt ∧ g.timerAt ≤ g.left := by
  refine ⟨_, rfl, rfl, Nat.sub_pos_of_lt (Nat.mod_lt _ (Nat.succ_pos _)), Nat.sub_le _ _⟩

section
variable {s : State} {f : FrameState} (hframe : s.frame = some f)
include hframe

theorem step_of_left_succ {k : Nat} (hleft : f.left = k + 1) : step s = s.sliceStep f k := by
  rw [step, State.machineStep, hframe]
  dsimp only
  rw [hleft]

theorem step_of_left_zero (hleft : f.left = 0) : step s = .next ((afterSlice s f.line).nextLine f.line) := by
  rw [step, State.machineStep, hframe]
  dsimp only
  rw [hleft]
  rfl

end

/-- A CPU step of the slice (60_exceptions.md R443, R447). -/
theorem State.sliceStep_of_cpuStep {s t : State} {f : FrameState}
    (h : (if hTimerFires s.bus f then timeUp s else s).cpuStep = .next t) (k : Nat) :
    s.sliceStep f k = .next { t with frame := some { f with left := k } } := by
  have hcpu : (if f.left == f.timerAt && s.bus.plat.hTimerMatches f.line then s.withBus s.bus.raiseTimer else s).cpuStep =
      .next t := by
    rw [← hTimerFires_eq]
    exact h
  rw [State.sliceStep, hcpu]

theorem afterSlice_cfg (s : State) (y : Nat) : (afterSlice s y).bus.cfg = s.bus.cfg := (s.bus.endLine_keeps y).cfg

theorem State.nextLine_of_lt {s : State} {y : Nat} (h : y + 1 < s.bus.cfg.linesPerFrame) : s.nextLine y = s.startLine (y + 1) :=
  if_pos h

theorem State.nextLine_of_last {s : State} {y : Nat} (h : s.bus.cfg.linesPerFrame ≤ y + 1) :
    s.nextLine y = { s with frame := none } := if_neg (Nat.not_lt.mpr h)

/-! A frame ends. -/

/-- Finitely many steps end the frame. -/
def State.FrameEnds (s : State) : Prop := ∃ n t, Host.Core.run Sys2Proof.core n s = .next t ∧ t.frame = none

theorem run_succ_of_step {s t : State} (h : step s = .next t) (n : Nat) :
    Host.Core.run Sys2Proof.core (n + 1) s = Host.Core.run Sys2Proof.core n t := by
  have hcore : Sys2Proof.core.step s = .next t := h
  simp only [Host.Core.run, hcore]

theorem State.FrameEnds.of_step {s t : State} (h : step s = .next t) (ht : t.FrameEnds) : s.FrameEnds := by
  obtain ⟨n, u, hu, hnone⟩ := ht
  exact ⟨n + 1, u, (run_succ_of_step h n).trans hu, hnone⟩

/-- A slice comes to its end: a frame ends if it ends from every state in which the slice of the scanline is used up. -/
theorem State.FrameEnds.of_endOfSlice {cfg : Config} {y : Nat}
    (h : ∀ (s : State) (f : FrameState), s.bus.cfg = cfg → s.frame = some f → f.line = y → f.left = 0 → s.FrameEnds) (k : Nat) :
    ∀ (s : State) (f : FrameState), s.bus.cfg = cfg → s.frame = some f → f.line = y → f.left = k → s.FrameEnds := by
  induction k with
  | zero => exact h
  | succ k ih =>
    intro s f hcfg hframe hline hleft
    obtain ⟨t, ht⟩ := (if hTimerFires s.bus f then timeUp s else s).cpuStep_total
    have hstep := (step_of_left_succ hframe hleft).trans (State.sliceStep_of_cpuStep ht k)
    exact .of_step hstep (ih _ { f with left := k } ((State.machineStep_keeps hstep).cfg.trans hcfg) rfl hline rfl)

/-- At the end of a slice the frame ends, or the next scanline starts. -/
theorem State.FrameEnds.of_nextLine {s : State} {f : FrameState} (hframe : s.frame = some f) (hleft : f.left = 0)
    (h : f.line + 1 < s.bus.cfg.linesPerFrame →
      ∀ (t : State) (g : FrameState), t.bus.cfg = s.bus.cfg → t.frame = some g → g.line = f.line + 1 → t.FrameEnds) :
    s.FrameEnds := by
  refine .of_step (step_of_left_zero hframe hleft) ?_
  have hcfg := afterSlice_cfg s f.line
  rcases Nat.lt_or_ge (f.line + 1) s.bus.cfg.linesPerFrame with hlt | hge
  · obtain ⟨g, hg, hline, -⟩ := (afterSlice s f.line).startLine_frame (f.line + 1)
    rw [State.nextLine_of_lt (by rwa [hcfg])]
    exact h hlt _ g (((afterSlice s f.line).startLine_keeps _).cfg.trans hcfg) hg hline
  · rw [State.nextLine_of_last (by rwa [hcfg])]
    exact ⟨0, _, rfl, rfl⟩

/-- The scanlines come to their end: each slice leads to the next of a frame's lines or ends the frame. -/
theorem State.FrameEnds.of_frame {cfg : Config} (s : State) (f : FrameState) (hcfg : s.bus.cfg = cfg) (hframe : s.frame = some f) :
    s.FrameEnds :=
  .of_endOfSlice (fun _ _ hcfg' hframe' hline hleft => .of_nextLine hframe' hleft fun hlt t g hcfgt hg hlineg =>
    have later : cfg.linesPerFrame - g.line < cfg.linesPerFrame - f.line := by
      rw [hcfg'] at hlt
      omega
    .of_frame t g (hcfgt.trans hcfg') hg) f.left s f hcfg hframe rfl rfl
termination_by cfg.linesPerFrame - f.line

/-! The VBlank event. -/

/-- VBlank, the NMI flag, the NMI latch and the joypad registers are as before. -/
structure Bus.VBlankKeeps (b b' : Bus) : Prop where
  vblank : b'.plat.vblank = b.plat.vblank
  rdnmi : b'.plat.rdnmi = b.plat.rdnmi
  nmiPending : b'.nmiPending = b.nmiPending
  joy : b'.plat.joy = b.plat.joy

theorem Bus.VBlankKeeps.trans {b b' b'' : Bus} (h : b.VBlankKeeps b') (h' : b'.VBlankKeeps b'') : b.VBlankKeeps b'' :=
  ⟨h'.vblank.trans h.vblank, h'.rdnmi.trans h.rdnmi, h'.nmiPending.trans h.nmiPending, h'.joy.trans h.joy⟩

theorem Bus.dmaPhase_vblankKeeps (b : Bus) (y : Nat) : b.VBlankKeeps (b.dmaPhase y) := by
  obtain ⟨hplat, -, hnmi, -, -⟩ := b.dmaPhase_plat y
  exact ⟨by rw [hplat], by rw [hplat], hnmi, by rw [hplat]⟩

theorem Bus.apuPhase_vblankKeeps (b : Bus) : b.VBlankKeeps b.apuPhase := ⟨rfl, rfl, rfl, rfl⟩

theorem Bus.ppuPhase_of_vblankLine {b : Bus} {y : Nat} (h0 : y ≠ 0) (hv : y = b.cfg.vblankLine) :
    b.ppuPhase y = b.vblankEvent := by
  simp only [Bus.ppuPhase, h0, ← hv, if_true, if_false]

theorem Bus.ppuPhase_zero {b : Bus} (hv : 0 ≠ b.cfg.vblankLine) :
    b.ppuPhase 0 = { b with plat := { b.plat with rdnmi := false, vblank := false } } := by
  simp only [Bus.ppuPhase, hv, if_true, if_false]

theorem Bus.ppuPhase_of_ne {b : Bus} {y : Nat} (h0 : y ≠ 0) (hv : y ≠ b.cfg.vblankLine) : b.ppuPhase y = b := by
  simp only [Bus.ppuPhase, h0, hv, if_false]

theorem State.nextLine_vblankKeeps (s : State) (y : Nat) : s.bus.VBlankKeeps (s.nextLine y).bus := by
  unfold State.nextLine
  split
  · rw [State.startLine_bus, State.startLine_plat]
    split <;> exact ⟨rfl, rfl, rfl, rfl⟩
  · exact ⟨rfl, rfl, rfl, rfl⟩

end Sys2Proof.Machine

namespace Sys2Proof.Proofs
open Sys2Proof.Machine Sys2Proof.Claims

/-- Settles O14: the match of mode 10 is the model's, and the IRQ line reads the flag. -/
theorem timerModes : Obligations.TimerModes := fun s y => ⟨s.startLine_plat y, rfl⟩

/-- Settles O8: a slice step is the processor's; the end of a slice is the three phases and then the next scanline or none. -/
theorem frameScheduleStep : Obligations.FrameScheduleStep := by
  intro s f hframe
  refine ⟨fun k hleft => ?slice, fun hleft hlt => ?nextLine, fun hleft hlast => ?lastLine⟩
  case slice =>
    obtain ⟨t, ht⟩ := (if hTimerFires s.bus f then timeUp s else s).cpuStep_total
    exact ⟨t, ht, (step_of_left_succ hframe hleft).trans (State.sliceStep_of_cpuStep ht k)⟩
  case nextLine =>
    obtain ⟨g, hg, hline, hfirst, hle⟩ := (afterSlice s f.line).startLine_frame (f.line + 1)
    have hstep := step_of_left_zero hframe hleft
    rw [State.nextLine_of_lt (by rwa [afterSlice_cfg])] at hstep
    refine ⟨_, g, hstep, hg, hline, hfirst.trans hle, hfirst, hle, rfl, ?_, State.startLine_storeByte _ _⟩
    rw [State.startLine_plat]
    exact (ite_eq_or_eq _ _ _).symm
  case lastLine => rw [step_of_left_zero hframe hleft, State.nextLine_of_last (by rwa [afterSlice_cfg])]

/-- Settles O9: a slice comes to its end, and the scanlines come to theirs. -/
theorem frameEnds : Obligations.FrameEnds := fun s f hframe => State.FrameEnds.of_frame s f rfl hframe

/-- Settles O13: the PPU phase by scanline; DMA before it, and the APU and the next scanline after it, touch none of the four. -/
theorem vblankEvent : Obligations.VBlankEvent := by
  intro s f hframe hleft hlines
  obtain ⟨hplat, hpads, hnmi, hcfg, -⟩ := s.bus.dmaPhase_plat f.line
  have after : ((s.bus.dmaPhase f.line).ppuPhase f.line).VBlankKeeps ((afterSlice s f.line).nextLine f.line).bus :=
    (Bus.apuPhase_vblankKeeps _).trans ((afterSlice s f.line).nextLine_vblankKeeps _)
  refine ⟨_, step_of_left_zero hframe hleft, fun hv => ?vblankLine, fun h0 => ?lineZero, fun h0 hv => ?otherLine⟩
  case vblankLine =>
    have h0 : f.line ≠ 0 := hlines.elim id fun h => hv ▸ h
    rw [Bus.ppuPhase_of_vblankLine h0 (by rwa [hcfg])] at after
    refine ⟨after.vblank, after.rdnmi, after.nmiPending.trans ?_, after.joy.trans ?_⟩
    · rw [Bus.vblankEvent, hnmi, hplat]
    · rw [Bus.vblankEvent, hplat, hpads]
  case lineZero =>
    have hv : 0 ≠ s.bus.cfg.vblankLine := (hlines.resolve_left (not_not_intro h0)).symm
    rw [h0, Bus.ppuPhase_zero (by rwa [← h0, hcfg, h0]), ← h0] at after
    refine ⟨after.vblank, after.rdnmi, after.nmiPending.trans hnmi, after.joy.trans ?_⟩
    rw [hplat]
  case otherLine =>
    rw [Bus.ppuPhase_of_ne h0 (by rwa [hcfg])] at after
    have keeps := (s.bus.dmaPhase_vblankKeeps f.line).trans after
    exact ⟨keeps.vblank, keeps.rdnmi, keeps.nmiPending, keeps.joy⟩

end Sys2Proof.Proofs
end

section
/-! Interrupt entries on a stack in the WRAM of bank 0, RTI after one, the vectors, and reset (60_exceptions.md R401 to R404, R445;
47_status_system.md R344; 70_reset_and_hazards.md R500, R501). -/
namespace Sys2Proof.Machine
open Sys2Proof.Claims

/-! An entry's bytes on the stack. -/

theorem entryBytes_of_emulation {c : Cpu} (h : c.e = true) (k : IntKind) :
    entryBytes k c = [hiByte c.pc, loByte c.pc, k.pushedP c] := by
  rw [entryBytes, IntKind.pushedP, IntKind.hardware_eq, h]
  rfl

theorem entryBytes_of_native {c : Cpu} (h : c.e = false) (k : IntKind) :
    entryBytes k c = [c.pb, hiByte c.pc, loByte c.pc, k.pushedP c] := by
  rw [entryBytes, IntKind.pushedP, h]
  rfl

theorem entryBytes_length_le (k : IntKind) (c : Cpu) : (entryBytes k c).length ≤ 4 := by
  cases h : c.e with
  | true => rw [entryBytes_of_emulation h]; exact Nat.le_succ 3
  | false => rw [entryBytes_of_native h]; exact le_rfl

/-- On a stack in the WRAM of bank 0 an entry's bytes lie in their slots. -/
theorem State.interrupt_stacked {k : IntKind} {s : State} (w : s.bus.StoresWf)
    (hlow : ∀ j < (entryBytes k s.cpu).length, (stackDown false s.cpu j).toNat ≤ 0x1FFF) :
    State.Stacked false s (s.interrupt k) (entryBytes k s.cpu) := by
  have hlen : (entryBytes k s.cpu).length ≤ 0x100 := (entryBytes_length_le k s.cpu).trans (by decide)
  refine ((State.Stacked.refl false w).pushBytes (entryBytes k s.cpu) hlen hlow).reads (s.interrupt_entryOf k).bus ?_ ?_ <;>
    rw [pushBytes_cpu, (s.interrupt_entryOf k).cpu]

/-- The slots of a stack in the WRAM of bank 0 start no DMA. -/
theorem plain_of_mem_stackAddrs {nw : Bool} {c : Cpu} {n : Nat} (b : Bus) (hlow : ∀ j < n, (stackDown nw c j).toNat ≤ 0x1FFF) :
    ∀ x ∈ stackAddrs nw c n, (busTarget b.cfg b.cart x).plain = true := by
  intro x hx
  obtain ⟨j, hj, rfl⟩ := List.mem_map.mp hx
  rw [busTarget_slot b (hlow j (List.mem_range.mp hj))]
  rfl

theorem stackAddrs_subset (nw : Bool) (c : Cpu) {m n : Nat} (h : m ≤ n) : stackAddrs nw c m ⊆ stackAddrs nw c n :=
  List.map_subset _ (List.range_subset.mpr h)

/-! RTI after an entry. -/

/-- M and X are 1 in a status byte that sets them. -/
theorem or_0x30_of_flags {p : Byte} (hm : flagOf p .m = true) (hx : flagOf p .x = true) : p ||| 0x30 = p := by
  rw [← withFlag_m_x]
  refine p_ext fun f => ?_
  cases f <;> simp [hm, hx]

theorem and_0xEF_or_0x30 (p : Byte) : p &&& 0xEF ||| 0x30 = p ||| 0x30 := by
  ext k hk
  rw [BitVec.getElem_or, BitVec.getElem_and, BitVec.getElem_or]
  interval_cases k <;> simp

/-- The registers as the invariant has them are a fixed point of `SetP` (10_state.md R42, R43, R49). -/
theorem setStatus_self {c : Cpu} (h : c.Inv) : setStatus c c.p = c := by
  obtain ⟨hindex, hmode⟩ := h
  have hp : (if c.e then c.p ||| 0x30 else c.p) = c.p := by
    split
    · next he =>
      obtain ⟨hm, hx, -⟩ := hmode he
      exact or_0x30_of_flags hm hx
    · rfl
  simp only [setStatus, hp]
  split
  · next hx =>
    obtain ⟨hhx, hhy⟩ := hindex hx
    rw [zext_loByte_of_hiByte hhx, zext_loByte_of_hiByte hhy]
  · rfl

/-- The bit 4 that a pushed copy of P lacks in emulation mode is one that `SetP` sets (60_exceptions.md R402, R410). -/
theorem setStatus_pushedP (k : IntKind) (c : Cpu) : setStatus c (k.pushedP c) = setStatus c c.p := by
  rw [IntKind.pushedP]
  split
  · next h =>
    have he : c.e = true := (Bool.and_eq_true_iff.mp h).1
    simp only [setStatus, he, if_true, and_0xEF_or_0x30]
  · rfl

/-- `SetP` at an entry's registers: P before it plays no part, and S, PB and PC are left. -/
theorem setStatus_with (c : Cpu) (sp pc : Word) (p pb v : Byte) :
    setStatus { c with s := sp, p := p, pb := pb, pc := pc } v = { setStatus c v with s := sp, pb := pb, pc := pc } := by
  unfold setStatus
  dsimp only
  split <;> split <;> rfl

/-- After an entry, `SetP` of the pushed copy of P leaves the registers before it, but for S, PB and PC. -/
theorem State.setStatus_interrupt {s : State} (hinv : s.cpu.Inv) (k : IntKind) :
    ∃ sp pc, setStatus (s.interrupt k).cpu (k.pushedP s.cpu) = { s.cpu with s := sp, pb := 0, pc := pc } := by
  rw [(s.interrupt_entryOf k).cpu, setStatus_with, setStatus_pushedP, setStatus_self hinv]
  exact ⟨_, _, rfl⟩

/-- RTI after an entry, from the bytes that lie in its slots (47_status_system.md R344). -/
theorem State.exec_rti_interrupt {s : State} {k : IntKind} (hinv : s.cpu.Inv)
    (h : State.Stacked false s (s.interrupt k) (entryBytes k s.cpu)) :
    ∃ u, exec .rti (s.interrupt k) = .next u ∧ u.cpu = if s.cpu.e then { s.cpu with pb := 0 } else s.cpu := by
  obtain ⟨sp, pc, hstatus⟩ := State.setStatus_interrupt hinv k
  cases he : s.cpu.e with
  | true =>
    rw [entryBytes_of_emulation he] at h
    have hp : pullByte false (s.interrupt k) 1 = some (k.pushedP s.cpu) := h.pullByte_eq (j := 2) (by decide) rfl
    have hlo : pullByte false (s.interrupt k) 2 = some (loByte s.cpu.pc) := h.pullByte_eq (j := 1) (by decide) rfl
    have hhi : pullByte false (s.interrupt k) 3 = some (hiByte s.cpu.pc) := h.pullByte_eq (j := 0) (by decide) rfl
    obtain ⟨hrti, -⟩ := Proofs.returnFromInterrupt _ _ _ _ 0 hp hlo hhi
    have hs : stackUp false (s.interrupt k).cpu 3 = s.cpu.s := h.stackUp_length
    refine ⟨_, hrti (h.mode.trans he), ?_⟩
    rw [hstatus, hs, mkWord_hi_lo]
    rfl
  | false =>
    rw [entryBytes_of_native he] at h
    have hp : pullByte false (s.interrupt k) 1 = some (k.pushedP s.cpu) := h.pullByte_eq (j := 3) (by decide) rfl
    have hlo : pullByte false (s.interrupt k) 2 = some (loByte s.cpu.pc) := h.pullByte_eq (j := 2) (by decide) rfl
    have hhi : pullByte false (s.interrupt k) 3 = some (hiByte s.cpu.pc) := h.pullByte_eq (j := 1) (by decide) rfl
    have hbk : pullByte false (s.interrupt k) 4 = some s.cpu.pb := h.pullByte_eq (j := 0) (by decide) rfl
    obtain ⟨-, hrti⟩ := Proofs.returnFromInterrupt _ _ _ _ _ hp hlo hhi
    have hs : stackUp false (s.interrupt k).cpu 4 = s.cpu.s := h.stackUp_length
    refine ⟨_, hrti (h.mode.trans he) hbk, ?_⟩
    rw [hstatus, hs, mkWord_hi_lo]
    rfl

/-! Reset. -/

/-- A target without an effect of its own: a store, or nothing. -/
def Target.passive (t : Target) : Prop := t.isStore = true ∨ t = .unmapped

theorem cartTarget_passive (b : Bus) (bank off : Nat) : (cartTarget b.cfg b.cart bank off).passive := by
  rw [cartTarget_eq]
  cases romIndex b bank off with
  | some j => exact .inl rfl
  | none =>
    cases sramIndex b bank off with
    | some j => exact .inl rfl
    | none => exact .inr rfl

/-- Reading a passive target changes the latch alone (20_memory.md R97). -/
theorem Bus.readAt_of_passive (b : Bus) {t : Target} (h : t.passive) :
    (b.readAt t).bus = { b with latch := (b.readAt t).v } := by
  cases t with
  | wram _ | sram _ | rom _ | unmapped => rfl
  | _ => exact absurd h (by simp [Target.passive, Target.isStore])

/-- What is neither WRAM nor in the register ranges of the system banks is the cartridge's (20_memory.md R82). -/
theorem isCartridge_of_outside {bank : Byte} {off : Word} (h7E : bank ≠ 0x7E) (h7F : bank ≠ 0x7F)
    (h : isSystemBank bank → 0x2000 ≤ off.toNat ∧
      ¬((0x2100 ≤ off.toNat ∧ off.toNat ≤ 0x21FF) ∨ (0x4000 ≤ off.toNat ∧ off.toNat ≤ 0x43FF))) : isCartridge bank off := by
  refine ⟨h7E, h7F, fun hsystem => ?_⟩
  obtain ⟨hlow, hregisters⟩ := h hsystem
  simp only [List.forall_mem_cons]
  exact ⟨hlow, by omega, by omega, by omega, by omega, by omega, by omega, nofun⟩

theorem Bus.read_bank0_high (b : Bus) {off : Word} (h : 0x8000 ≤ off.toNat) :
    (b.read (mkAddr 0 off)).bus = { b with latch := (b.read (mkAddr 0 off)).v } := by
  have hcart : isCartridge 0 off := isCartridge_of_outside (by decide) (by decide) fun _ => by omega
  rw [Bus.read_of_target (busTarget_of_isCartridge _ _ hcart)]
  exact b.readAt_of_passive (cartTarget_passive b _ _)

theorem Eight.get_map {α : Type} (f : Eight α) (g : α → α) (c : BitVec 3) : (f.map g).get c = g (f.get c) := by
  obtain rfl | rfl | rfl | rfl | rfl | rfl | rfl | rfl := channel_cases c <;> rfl

/-- P after reset: M, X and I set, D clear (10_state.md R55). -/
theorem Cpu.afterReset_p (c : Cpu) :
    c.afterReset.p = withFlag (withFlag (withFlag (withFlag c.p .m true) .x true) .d false) .i true := rfl

theorem Cpu.afterReset_flags (c : Cpu) :
    c.afterReset.flag .m = true ∧ c.afterReset.flag .x = true ∧ c.afterReset.flag .d = false ∧ c.afterReset.flag .i = true := by
  simp [Cpu.flag, Cpu.afterReset_p]

/-- The vector is read with the latch alone changed. -/
theorem State.resetSequence_bus (s : State) :
    s.resetSequence.bus = { s.bus.afterReset with latch := s.resetSequence.bus.latch } := by
  have hreads : s.resetSequence.bus = ((s.bus.afterReset.read (mkAddr 0 0xFFFC)).bus.read (mkAddr 0 0xFFFD)).bus := rfl
  rw [hreads, Bus.read_bank0_high _ (by decide), Bus.read_bank0_high _ (by decide)]

/-- A vector in stores (70_reset_and_hazards.md R501). -/
theorem State.resetSequence_of_word2 {s : State} {lo hi : Byte} (h : word2 s.bus 0 0xFFFC lo hi) :
    s.resetSequence.cpu.pc = mkWord hi lo ∧ s.resetSequence.bus.latch = hi := by
  have hload : ((s.withCpu s.cpu.afterReset).withBus s.bus.afterReset).load16 (.bank0 0xFFFC) = _ :=
    State.load16_bank0_of_word2 (s := (s.withCpu s.cpu.afterReset).withBus s.bus.afterReset) h
  rw [State.resetSequence, hload]
  exact ⟨rfl, rfl⟩

end Sys2Proof.Machine

namespace Sys2Proof.Proofs
open Sys2Proof.Machine Sys2Proof.Claims

/-- Settles O15, by the lemma that every entry leaves what the rules say. -/
theorem interruptEntry : Obligations.InterruptEntry := fun k s => s.interrupt_entryOf k

/-- Settles O16: the pushed bytes lie in their slots, and an entry writes nowhere else. -/
theorem interruptStack : Obligations.InterruptStack := by
  intro k s w hlow
  have h := State.interrupt_stacked w hlow
  exact ⟨h.stored, h.bus.frame (plain_of_mem_stackAddrs s.bus hlow)⟩

/-- Settles O20: the pushed bytes are pulled again, and RTI reads only. -/
theorem entryThenReturn : Obligations.EntryThenReturn := by
  intro k s hinv hlow
  have hlen := entryBytes_length_le k s.cpu
  have h := State.interrupt_stacked (k := k) hinv.2 fun j hj => hlow j (hj.trans_le hlen)
  obtain ⟨u, hu, hcpu⟩ := State.exec_rti_interrupt hinv.1 h
  have keeps := (s.interrupt_keeps k).trans (exec_sound hu).keeps
  have hreads : (s.interrupt k).bus.Reads u.bus := (exec_busFrame hu).reads rfl
  refine ⟨u, hu, hcpu, keeps.frame, keeps.resetRequest, fun a ha => ?_⟩
  exact ((h.bus.reads hreads).mono (stackAddrs_subset false s.cpu hlen)).frame (plain_of_mem_stackAddrs s.bus hlow) a ha

/-- Settles O17: the model's table is the statement's, and an entry and reset load a vector that lies in stores. -/
theorem vectorTable : Obligations.VectorTable := by
  refine ⟨rfl, rfl, rfl, rfl, rfl, rfl, rfl, rfl, fun k s lo hi h => ?_, fun s lo hi h => (State.resetSequence_of_word2 h).1⟩
  rw [State.pushFrame_eq_pushBytes, IntKind.vector_eq_vectorOffset] at h
  exact ((s.interrupt_entryOf k).pc lo hi h).1

/-- Settles O21: a host reset is the reset sequence, which sets each register and reads the vector with the latch alone changed. -/
theorem hostReset : Obligations.HostReset := by
  intro s
  let u : State := { s with resetRequest := false, frame := none }
  have hreset : s.hostReset = .next u.resetSequence := rfl
  have hbus := u.resetSequence_bus
  have keeps := u.resetSequence_keeps
  obtain ⟨hm, hx, hd, hi⟩ := s.cpu.afterReset_flags
  have hdma (c : BitVec 3) : (u.resetSequence.bus.dma.get c).terminated = true ∧
      (u.resetSequence.bus.dma.get c).doTransfer = false := by
    rw [hbus, Bus.afterReset, Eight.get_map]
    exact ⟨rfl, rfl⟩
  refine ⟨u.resetSequence, hreset, rfl, hm, hx, hd, hi, hiByte_zext _, hiByte_zext _, hiByte_mkWord _ _, rfl, rfl, rfl, rfl, rfl,
    ?nmi, keeps.resetRequest, keeps.frame, ?plat, hdma, ?sram, keeps.bus.cart, keeps.bus.cfg,
    fun lo hi h => State.resetSequence_of_word2 (s := u) h⟩
  all_goals
    rw [hbus]
    rfl

end Sys2Proof.Proofs
end

section
/-! The multiplier, the divider and the interrupt flags of the platform registers (60_exceptions.md R416, R419, R421, R430,
R431). -/
namespace Sys2Proof.Machine
open Sys2Proof.Claims

theorem toNat_zext (v : Byte) : (zext v).toNat = v.toNat := BitVec.toNat_setWidth_of_le (by decide)

/-- The product of two bytes fits a word (60_exceptions.md R419). -/
theorem toNat_zext_mul_zext (u v : Byte) : (zext u * zext v).toNat = u.toNat * v.toNat := by
  have hfits : u.toNat * v.toNat < 2 ^ 8 * 2 ^ 8 := Nat.mul_lt_mul'' u.isLt v.isLt
  rw [BitVec.toNat_mul, toNat_zext, toNat_zext]
  exact Nat.mod_eq_of_lt hfits

/-- The latch's bits 6:4 and the version's four lie below bit 7 (60_exceptions.md R430). -/
theorem bit7_latch_or_version (f : Bool) (latch : Byte) (version : BitVec 4) :
    bit7 f (latch &&& 0x70 ||| version.setWidth 8) =
      (if f then 0x80 else 0x00) ||| (latch &&& 0x70) ||| version.setWidth 8 := by
  have hlow : (latch &&& 0x70 ||| version.setWidth 8) &&& 0x7F = latch &&& 0x70 ||| version.setWidth 8 := by
    ext k hk
    interval_cases k <;> simp
  rw [bit7, hlow, BitVec.or_assoc]

end Sys2Proof.Machine

namespace Sys2Proof.Proofs
open Sys2Proof.Machine Sys2Proof.Claims

/-- Settles O56: each register's access is the model's, and the words are the numbers of the rule. -/
theorem multiplyAndDivide : Obligations.MultiplyAndDivide := by
  intro b bank v hb
  have read {off : Word} (h : 0x4200 ≤ off.toNat ∧ off.toNat ≤ 0x421F) := congrArg BusRead.v (Bus.read_platform hb b h)
  have multiply : b.write (mkAddr bank 0x4203) v = b.writeAt (.platform 0x03) v :=
    Bus.write_platform hb b (by decide) (by decide) (by decide) v
  have divide : b.write (mkAddr bank 0x4206) v = b.writeAt (.platform 0x06) v :=
    Bus.write_platform hb b (by decide) (by decide) (by decide) v
  refine ⟨⟨_, multiply, toNat_zext_mul_zext _ _⟩, fun hv => ?byZero, fun hv => ?byNonzero, read (by decide), read (by decide),
    read (by decide), read (by decide)⟩
  case byZero =>
    subst hv
    exact divide
  case byNonzero =>
    have hdivided : b.writePlatform 0x06 v =
        { b with plat := { b.plat with rddiv := b.plat.wrdiv / zext v, rdmpy := b.plat.wrdiv % zext v } } := if_neg hv
    refine ⟨b.plat.wrdiv / zext v, b.plat.wrdiv % zext v, ?_, ?_, ?_⟩
    · rw [divide, Bus.writeAt, Bus.writeTarget, hdivided]
    · rw [BitVec.toNat_udiv, toNat_zext]
    · rw [BitVec.toNat_umod, toNat_zext]

/-- Settles O57: the reads acknowledge their flag; the write's two flags are the rule's case by case. -/
theorem interruptFlags : Obligations.InterruptFlags := by
  intro b bank v hb
  refine ⟨?rdnmi, Bus.read_platform hb b (by decide), ?nmitimen⟩
  case rdnmi =>
    rw [← bit7_latch_or_version]
    exact Bus.read_platform hb b (by decide)
  case nmitimen =>
    have hlate : (b.cfg.nmiOnLateEnable && b.plat.rdnmi && v.getLsbD 7 && !b.plat.nmitimen.getLsbD 7) =
        (b.cfg.nmiOnLateEnable && v.getLsbD 7 && !b.plat.nmitimen.getLsbD 7 && b.plat.rdnmi) := by
      ac_rfl
    have htimeup : (if v &&& 0x30 = 0 then false else b.plat.timeup) = (b.plat.timeup && !(v &&& 0x30 == 0)) := by
      by_cases h : v &&& 0x30 = 0
      · rw [if_pos h, h]
        exact (Bool.and_false _).symm
      · rw [if_neg h, beq_eq_false_iff_ne.mpr h]
        exact (Bool.and_true _).symm
    rw [hlate, htimeup]
    exact Bus.write_platform hb b (by decide) (by decide) (by decide) v

end Sys2Proof.Proofs
end

section
/-! Bytes of ROM carried to WRAM through WMDATA by DMA (60_exceptions.md R438, R441; 20_memory.md R88), and units on the channels
that a byte selects (60_exceptions.md R424, R440). -/
namespace Sys2Proof.Machine
open Sys2Proof.Claims

/-! Units on channels. -/

theorem channels_eq_map : channels = (List.range 8).map (BitVec.ofNat 3) := by decide

theorem foldl_channels {α : Type} (f : α → BitVec 3 → α) (a : α) :
    channels.foldl f a = (List.range 8).foldl (fun t k => f t (BitVec.ofNat 3 k)) a := by
  rw [channels_eq_map, List.foldl_map]

/-- Channel `k` of the eight has the number `k`. -/
theorem toNat_ofNat_of_mem_range {k : Nat} (h : k ∈ List.range 8) : (BitVec.ofNat 3 k).toNat = k :=
  Nat.mod_eq_of_lt (List.mem_range.mp h)

/-- A unit on the channels that a byte selects, channel 0 first. -/
theorem onSelected_eq (unit : BitVec 3 → Bus → Bus) (v : Byte) (b : Bus) :
    onSelected unit v b = channels.foldl (fun t c => if v.getLsbD c.toNat then unit c t else t) b := by
  rw [onSelected, foldl_channels]
  refine List.foldl_ext _ _ _ fun t k hk => ?_
  rw [toNat_ofNat_of_mem_range hk]

theorem Bus.runDmaMask_eq_onSelected (b : Bus) (v : Byte) : b.runDmaMask v = onSelected (fun k t => t.runDma k) v b :=
  (onSelected_eq _ v b).symm

theorem Bus.hdmaInitMask_eq_onSelected (b : Bus) (v : Byte) : b.hdmaInitMask v = onSelected (fun k t => t.hdmaInit k) v b :=
  (onSelected_eq _ v b).symm

/-- A unit on no channel. -/
theorem onSelected_zero (unit : BitVec 3 → Bus → Bus) (b : Bus) : onSelected unit 0 b = b := rfl

/-! One byte carried, and many. -/

/-- From `b` to `b'` byte `j` of ROM went through WMDATA (20_memory.md R88). -/
structure Bus.CarriesByte (b b' : Bus) (j : Nat) : Prop where
  cfg : b'.cfg = b.cfg
  cart : b'.cart = b.cart
  sram : b'.sram = b.sram
  wramPtr : b'.wramPtr = b.wramPtr + 1
  wram : b'.wram = Memory.write b.wram b.wramPtr.toNat (Memory.read b.cart.rom j)

/-- A move from the A-bus to WMDATA, of a byte in ROM. -/
theorem Bus.moveByte_carries {b : Bus} {a : Addr} {j : Nat} (h : aBusTarget b.cfg b.cart a = .rom j) :
    b.CarriesByte (b.moveByte false a 0x80) j := by
  have hmove : b.moveByte false a 0x80 =
      { b with
        wram := Memory.write b.wram b.wramPtr.toNat (Memory.read b.cart.rom j)
        wramPtr := b.wramPtr + 1
        latch := Memory.read b.cart.rom j } := by
    rw [Bus.moveByte, Bus.readA, h]
    rfl
  rw [hmove]
  exact ⟨rfl, rfl, rfl, rfl, rfl⟩

/-- The registers of a channel are no part of what is carried. -/
theorem Bus.CarriesByte.withChannel {b b' : Bus} {j : Nat} (h : b.CarriesByte b' j) (c : BitVec 3) (ch : Channel) :
    b.CarriesByte (b'.withChannel c ch) j := ⟨h.cfg, h.cart, h.sram, h.wramPtr, h.wram⟩

theorem carriedToWram_zero (b : Bus) (src : Nat → Addr) : CarriedToWram b b 0 src :=
  ⟨by simp, fun _ hk => absurd hk (Nat.not_lt_zero _), fun _ _ => rfl, rfl⟩

/-- A bus with the same stores and WRAM pointer. -/
theorem carriedToWram_congr {b t u : Bus} {n : Nat} {src : Nat → Addr} (h : CarriedToWram b t n src)
    (hptr : u.wramPtr = t.wramPtr) (hwram : u.wram = t.wram) (hsram : u.sram = t.sram) : CarriedToWram b u n src := by
  unfold CarriedToWram
  rw [hptr, hwram, hsram]
  exact h

/-- One byte carried, and then `n` more, no more than WRAM has. -/
theorem carriedToWram_cons {b b' t : Bus} {n j : Nat} {src : Nat → Addr} (w : b.StoresWf) (hn : n < 0x20000)
    (hj : aBusTarget b.cfg b.cart (src 0) = .rom j) (hbyte : b.CarriesByte b' j)
    (h : CarriedToWram b' t n fun k => src (k + 1)) : CarriedToWram b t (n + 1) src := by
  obtain ⟨hptr, hcarried, hkept, hsram⟩ := h
  have hp := b.wramPtr.isLt
  have hnext (k : Nat) : (b'.wramPtr.toNat + k) % 0x20000 = (b.wramPtr.toNat + (k + 1)) % 0x20000 := by
    have hone : (1 : BitVec 17).toNat = 1 := rfl
    rw [hbyte.wramPtr, BitVec.toNat_add, hone]
    omega
  rw [hbyte.cfg, hbyte.cart] at hcarried
  simp only [hnext] at hcarried hkept
  refine ⟨?pointer, fun k hk i hi => ?carried, fun i hi => ?kept, hsram.trans hbyte.sram⟩
  case pointer =>
    rw [hptr]
    apply BitVec.eq_of_toNat_eq
    rw [BitVec.toNat_ofNat, BitVec.toNat_ofNat]
    exact hnext n
  case carried =>
    cases k with
    | succ k => exact hcarried k (Nat.lt_of_succ_lt_succ hk) i hi
    | zero =>
      obtain rfl : j = i := Target.rom.inj (hj.symm.trans hi)
      have hfirst : (b.wramPtr.toNat + 0) % 0x20000 = b.wramPtr.toNat := Nat.mod_eq_of_lt hp
      rw [hfirst, hkept _ fun k hk => by omega, hbyte.wram]
      exact Memory.read_write_self w.wram_wf _ _
  case kept =>
    have hne : i ≠ b.wramPtr.toNat := fun e => hi 0 (Nat.succ_pos n) (e.trans (Nat.mod_eq_of_lt hp).symm)
    rw [hkept i fun k hk => hi (k + 1) (Nat.succ_lt_succ hk), hbyte.wram, Memory.read_write_ne _ hne]

end Sys2Proof.Machine
end

section
/-! General DMA: the channel it leaves, what it carries, and the writes of MDMAEN (60_exceptions.md R424, R437, R438). -/
namespace Sys2Proof.Machine
open Sys2Proof.Claims

/-- The channel when `k` bytes have been moved (60_exceptions.md R438). -/
def Channel.afterBytes (ch : Channel) (k : Nat) : Channel := { ch with das := ch.das - BitVec.ofNat 16 k, a1t := dmaEnd ch k }

/-- A-bus address of byte `k` of an incrementing channel. -/
def Channel.source (ch : Channel) (k : Nat) : Addr := mkAddr ch.a1b (ch.a1t + BitVec.ofNat 16 k)

theorem dmaEnd_zero (ch : Channel) : dmaEnd ch 0 = ch.a1t := by
  unfold dmaEnd
  split
  · rfl
  · split <;> simp

theorem Channel.afterBytes_zero (ch : Channel) : ch.afterBytes 0 = ch := by
  rw [Channel.afterBytes, dmaEnd_zero]
  simp

theorem sub_ofNat_succ (v : Word) (n : Nat) : v - BitVec.ofNat 16 (n + 1) = v - 1 - BitVec.ofNat 16 n := by
  rw [Nat.add_comm, BitVec.ofNat_add, ← BitVec.sub_sub]
  rfl

theorem dmaEnd_succ (ch : Channel) (k : Nat) : dmaEnd { ch with a1t := ch.nextA1t, das := ch.das - 1 } k = dmaEnd ch (k + 1) := by
  unfold dmaEnd Channel.nextA1t
  split
  · rfl
  · split
    · exact (sub_ofNat_succ _ _).symm
    · exact (add_ofNat_succ _ _).symm

theorem Channel.afterBytes_succ (ch : Channel) (k : Nat) :
    ({ ch with a1t := ch.nextA1t, das := ch.das - 1 } : Channel).afterBytes k = ch.afterBytes (k + 1) := by
  rw [Channel.afterBytes, dmaEnd_succ, Channel.afterBytes, sub_ofNat_succ]

theorem Bus.dmaByte_dma (c : BitVec 3) (n : Nat) (b : Bus) : (b.dmaByte c n).dma =
    b.dma.set c { b.dma.get c with a1t := (b.dma.get c).nextA1t, das := (b.dma.get c).das - 1 } := by
  rw [Bus.dmaByte, Bus.withChannel, (b.moveByte_dmaKeeps _ _ _).dma]

theorem Bus.dmaLoop_dma (c : BitVec 3) (k : Nat) :
    ∀ (n : Nat) (b : Bus), (Bus.dmaLoop c k n b).dma = b.dma.set c ((b.dma.get c).afterBytes k) := by
  induction k with
  | zero =>
    intro n b
    rw [Bus.dmaLoop, Channel.afterBytes_zero, Eight.set_get_self]
  | succ k ih =>
    intro n b
    rw [Bus.dmaLoop, ih, Bus.dmaByte_dma, Eight.get_set_self, Eight.set_set, Channel.afterBytes_succ]

/-- The count takes `das` to 0, coming round from 0 (60_exceptions.md R438). -/
theorem Channel.das_sub_count (ch : Channel) : ch.das - BitVec.ofNat 16 ch.count = 0 := by
  unfold Channel.count
  split
  · next h => rw [h]; rfl
  · rw [BitVec.ofNat_toNat, BitVec.setWidth_eq]
    exact BitVec.sub_self _

theorem Channel.count_le (ch : Channel) : ch.count ≤ 0x10000 := by
  unfold Channel.count
  split
  · exact le_rfl
  · exact ch.das.isLt.le

theorem Bus.runDma_dma (b : Bus) (c : BitVec 3) :
    (b.runDma c).dma = b.dma.set c { b.dma.get c with das := 0, a1t := dmaEnd (b.dma.get c) (b.dma.get c).count } := by
  rw [Bus.runDma, Bus.dmaLoop_dma, Channel.afterBytes, Channel.das_sub_count]

/-- One byte of a channel that carries ROM to WMDATA, incrementing. -/
theorem Bus.dmaByte_carries {b : Bus} {c : BitVec 3} {j : Nat} (hmode : (b.dma.get c).dmap = 0x00)
    (hport : (b.dma.get c).bbad = 0x80) (hj : aBusTarget b.cfg b.cart ((b.dma.get c).source 0) = .rom j) (n : Nat) :
    b.CarriesByte (b.dmaByte c n) j ∧ (b.dmaByte c n).dma.get c =
      { b.dma.get c with a1t := (b.dma.get c).a1t + 1, das := (b.dma.get c).das - 1 } := by
  have htoA : (b.dma.get c).toA = false := by rw [Channel.toA, hmode]; rfl
  have hpattern : dmaPattern (b.dma.get c).mode = [0] := by rw [Channel.mode, hmode]; rfl
  have hnext : (b.dma.get c).nextA1t = (b.dma.get c).a1t + 1 := by rw [Channel.nextA1t, hmode]; rfl
  constructor
  · have hsource : (b.dma.get c).source 0 = mkAddr (b.dma.get c).a1b (b.dma.get c).a1t := by
      rw [Channel.source, BitVec.add_zero]
    have hfixed : (0x80 : Byte) + [0].getD (n % [(0 : Byte)].length) 0 = 0x80 := by
      rw [List.length_singleton, Nat.mod_one]
      rfl
    rw [Bus.dmaByte, htoA, hport, hpattern, hfixed, ← hsource]
    exact (Bus.moveByte_carries hj).withChannel _ _
  · rw [Bus.dmaByte_dma, Eight.get_set_self, hnext]

/-- `k` bytes of such a channel, all from ROM. -/
theorem Bus.dmaLoop_carries {c : BitVec 3} (k : Nat) : ∀ {b : Bus} (n : Nat), b.StoresWf → (b.dma.get c).dmap = 0x00 →
    (b.dma.get c).bbad = 0x80 → k ≤ 0x10000 → inRom b k (b.dma.get c).source →
    CarriedToWram b (Bus.dmaLoop c k n b) k (b.dma.get c).source := by
  induction k with
  | zero => exact fun {b} _ _ _ _ _ _ => carriedToWram_zero b _
  | succ k ih =>
    intro b n w hmode hport hk hrom
    obtain ⟨j, hj⟩ := hrom 0 (Nat.succ_pos k)
    obtain ⟨hbyte, hch⟩ := Bus.dmaByte_carries hmode hport hj n
    have hsource : ((b.dmaByte c n).dma.get c).source = fun k => (b.dma.get c).source (k + 1) := by
      funext k
      rw [hch, Channel.source, Channel.source, add_ofNat_succ]
    have hrest := ih (b := b.dmaByte c n) (n + 1) ((b.dmaByte_keeps c n).storesWf w) (by rw [hch, hmode]) (by rw [hch, hport])
      (by omega) fun i hi => by
        rw [hsource, hbyte.cfg, hbyte.cart]
        exact hrom (i + 1) (Nat.succ_lt_succ hi)
    rw [hsource] at hrest
    exact carriedToWram_cons w (by omega) hj hbyte hrest

/-! The write of MDMAEN and the phase that runs pending ones. -/

theorem Bus.write_mdmaen (b : Bus) {bank : Byte} (hb : isSystemBank bank) (v : Byte) :
    b.write (mkAddr bank 0x420B) v = ({ b with latch := v } : Bus).startDma v := by
  have target : busTarget b.cfg b.cart (mkAddr bank 0x420B) = .platform 0x0B := busTarget_platform _ _ hb (by decide)
  rw [Bus.write, target]
  rfl

theorem Bus.startDma_of_immediate {b : Bus} (h : b.cfg.dmaTiming = .immediate) (v : Byte) : b.startDma v = b.runDmaMask v := by
  rw [Bus.startDma, h]

theorem Bus.startDma_of_afterSlice {b : Bus} (h : b.cfg.dmaTiming = .afterSlice) (v : Byte) :
    b.startDma v = { b with dmaPending := if v = 0 then b.dmaPending else b.dmaPending ++ [v] } := by
  rw [Bus.startDma, h]

/-- A write of 0 starts nothing (60_exceptions.md R424). -/
theorem Bus.startDma_zero (b : Bus) : b.startDma 0 = b := by
  cases h : b.cfg.dmaTiming with
  | immediate => rw [Bus.startDma_of_immediate h, Bus.runDmaMask_eq_onSelected, onSelected_zero]
  | afterSlice => rw [Bus.startDma_of_afterSlice h, if_pos rfl]

theorem Bus.runPending_of_immediate {b : Bus} (h : b.cfg.dmaTiming = .immediate) : b.runPending = b := by
  rw [Bus.runPending, h]

theorem Bus.runPending_of_afterSlice {b : Bus} (h : b.cfg.dmaTiming = .afterSlice) :
    b.runPending = b.dmaPending.foldl Bus.runDmaMask { b with dmaPending := [] } := by
  rw [Bus.runPending, h]

end Sys2Proof.Machine

namespace Sys2Proof.Proofs
open Sys2Proof.Machine Sys2Proof.Claims

/-- Settles O59: the loop's channel and bytes by induction over the count; a write of MDMAEN and the phase by the timing. -/
theorem generalDma : Obligations.GeneralDma := by
  intro b c ch n src
  have keeps := b.runDma_channelKeeps c
  refine ⟨b.runDma_dma c, keeps.plat, keeps.cart, keeps.cfg,
    fun w hmode hport hrom => Bus.dmaLoop_carries ch.count 0 w hmode hport ch.count_le hrom, fun bank v hb => ?write⟩
  have write (v : Byte) := b.write_mdmaen hb v
  refine ⟨fun h => ?immediate, fun h => ⟨fun hv => ?pending, ?phase⟩, ?zero, Bus.runPending_of_immediate⟩
  case immediate =>
    rw [write, Bus.startDma_of_immediate (by exact h), Bus.runDmaMask_eq_onSelected]
  case pending => rw [write, Bus.startDma_of_afterSlice (by exact h), if_neg hv]
  case phase =>
    simp only [Bus.runPending_of_afterSlice h, ← Bus.runDmaMask_eq_onSelected]
  case zero => rw [write, Bus.startDma_zero]

end Sys2Proof.Proofs
end

section
/-! HDMA: a header and its pointer, a unit, a line, and a scanline's lines (60_exceptions.md R425, R439 to R441). -/
namespace Sys2Proof.Machine
open Sys2Proof.Claims

/-! What the A-bus reads. -/

/-- The A-bus reaches no device (60_exceptions.md R438, D40). -/
theorem aBusTarget_passive (b : Bus) (a : Addr) : (aBusTarget b.cfg b.cart a).passive := by
  obtain ⟨bank, off, rfl⟩ : ∃ bank off, a = mkAddr bank off := ⟨_, _, (mkAddr_bank_off a).symm⟩
  simp only [aBusTarget, bankOf_mkAddr, offOf_mkAddr]
  split
  · exact .inr rfl
  next hregisters =>
  by_cases h7E : bank = 0x7E
  · rw [h7E, busTarget_bank7E]
    exact .inl rfl
  by_cases h7F : bank = 0x7F
  · rw [h7F, busTarget_bank7F]
    exact .inl rfl
  by_cases hlow : isSystemBank bank ∧ off.toNat ≤ 0x1FFF
  · rw [busTarget_lowWram _ _ hlow.1 hlow.2]
    exact .inl rfl
  have hcart : isCartridge bank off := isCartridge_of_outside h7E h7F fun hsystem =>
    ⟨Nat.not_le.mp (not_and.mp hlow hsystem), not_and.mp hregisters (systemBank_of_isSystemBank hsystem).1⟩
  rw [busTarget_of_isCartridge _ _ hcart]
  exact cartTarget_passive b _ _

theorem Bus.readA_bus (b : Bus) (a : Addr) : (b.readA a).bus = { b with latch := (b.readA a).v } :=
  b.readAt_of_passive (aBusTarget_passive b a)

theorem Bus.readA_of_aByte {b : Bus} {a : Addr} {v : Byte} (h : aByte b a = some v) :
    b.readA a = { v := v, bus := { b with latch := v } } := by
  unfold aByte at h
  unfold Bus.readA Bus.readAt Bus.readTarget
  split at h <;> simp_all

/-- A byte of ROM is the same in every state of the machine. -/
theorem aByte_of_rom {b : Bus} {a : Addr} {j : Nat} (h : aBusTarget b.cfg b.cart a = .rom j) :
    aByte b a = some (Memory.read b.cart.rom j) := by
  rw [aByte, h]

theorem headerAt_of_inRom {b b' : Bus} {ch : Channel} {h lo hi : Byte} {pointer : Bool} (hcfg : b'.cfg = b.cfg)
    (hcart : b'.cart = b.cart) (hrom : inRom b (if pointer then 3 else 1) (tableAddr ch)) (ht : headerAt b ch h lo hi pointer) :
    headerAt b' ch h lo hi pointer := by
  have same (k : Nat) (hk : k < if pointer then 3 else 1) : aByte b' (tableAddr ch k) = aByte b (tableAddr ch k) := by
    obtain ⟨j, hj⟩ := hrom k hk
    rw [aByte_of_rom hj, aByte_of_rom (b := b') (by rw [hcfg, hcart, hj]), hcart]
  obtain ⟨hh, hpointer⟩ := ht
  refine ⟨(same 0 (by split <;> decide)).trans hh, fun hp => ?_⟩
  subst hp
  obtain ⟨hlo, hhi⟩ := hpointer rfl
  exact ⟨(same 1 (by decide)).trans hlo, (same 2 (by decide)).trans hhi⟩

/-! A header and its pointer. -/

theorem tableAddr_zero (ch : Channel) : tableAddr ch 0 = mkAddr ch.a1b ch.a2a := by
  rw [tableAddr, BitVec.add_zero]

theorem Bus.hdmaPointer_of_aByte {b : Bus} {c : BitVec 3} {ch : Channel} {lo hi : Byte} (hch : b.dma.get c = ch)
    (hlo : aByte b (tableAddr ch 0) = some lo) (hhi : aByte b (tableAddr ch 1) = some hi) :
    b.hdmaPointer c = { b with latch := hi, dma := b.dma.set c { ch with a2a := ch.a2a + 2, das := mkWord hi lo } } := by
  rw [tableAddr_zero] at hlo
  have hnext : ({ b with latch := lo } : Bus).readA (mkAddr ch.a1b (ch.a2a + 1)) = _ :=
    Bus.readA_of_aByte (b := { b with latch := lo }) hhi
  simp only [Bus.hdmaPointer, hch, Bus.readA_of_aByte hlo, hnext]
  rfl

/-- Whether a header is followed by a pointer that is read with it (60_exceptions.md R440, R441). -/
def Channel.pointerAfter (ch : Channel) (init : Bool) (h : Byte) : Bool := isIndirect ch && (init || decide (h ≠ 0))

/-- A header in stores, before its pointer is read. -/
theorem Bus.hdmaHeader_of_aByte {b : Bus} {c : BitVec 3} {ch : Channel} {h : Byte} (hch : b.dma.get c = ch)
    (hh : aByte b (tableAddr ch 0) = some h) (init : Bool) :
    b.hdmaHeader c init =
      let b1 : Bus := { b with latch := h, dma := b.dma.set c (afterHeader ch h 0 0 false) }
      if ch.pointerAfter init h then b1.hdmaPointer c else b1 := by
  rw [tableAddr_zero] at hh
  have hne : (!(h == 0)) = decide (h ≠ 0) := (decide_not ..).symm
  simp only [Bus.hdmaHeader, hch, Bus.readA_of_aByte hh, hne]
  rfl

/-- The pointer after a header. -/
theorem afterHeader_pointer (ch : Channel) (h lo hi : Byte) :
    { afterHeader ch h 0 0 false with a2a := (afterHeader ch h 0 0 false).a2a + 2, das := mkWord hi lo } =
      afterHeader ch h lo hi true := by
  have h3 : ch.a2a + 1 + 2 = ch.a2a + 3 := BitVec.add_assoc ..
  simp only [afterHeader, Bool.false_eq_true, if_false, if_true, h3]

/-- A header in stores, with its pointer where it has one (60_exceptions.md R440, R441). -/
theorem Bus.hdmaHeader_of_headerAt {b : Bus} {c : BitVec 3} {ch : Channel} {init pointer : Bool} {h lo hi : Byte}
    (hch : b.dma.get c = ch) (hp : ch.pointerAfter init h = pointer) (ht : headerAt b ch h lo hi pointer) :
    b.hdmaHeader c init = { b with
      latch := if pointer then hi else h
      dma := b.dma.set c (afterHeader ch h lo hi pointer) } := by
  obtain ⟨hh, hpointer⟩ := ht
  rw [Bus.hdmaHeader_of_aByte hch hh, hp]
  cases pointer with
  | false => rfl
  | true =>
    obtain ⟨hlo, hhi⟩ := hpointer rfl
    have next (k : Nat) : tableAddr (afterHeader ch h 0 0 false) k = tableAddr ch (k + 1) := by
      rw [tableAddr, tableAddr, add_ofNat_succ]
      rfl
    have hread := Bus.hdmaPointer_of_aByte
      (b := { b with latch := h, dma := b.dma.set c (afterHeader ch h 0 0 false) }) (c := c) (Eight.get_set_self ..)
      (by rw [next]; exact hlo) (by rw [next]; exact hhi)
    simp only [if_true, hread, Eight.set_set, afterHeader_pointer]

/-- Initialisation from a table in stores (60_exceptions.md R440). -/
theorem Bus.hdmaInit_of_headerAt {b : Bus} {c : BitVec 3} {ch : Channel} {h lo hi : Byte} (hch : b.dma.get c = ch)
    (ht : headerAt b { ch with a2a := ch.a1t } h lo hi (isIndirect ch)) :
    b.hdmaInit c = { b with
      latch := if isIndirect ch then hi else h
      dma := b.dma.set c (afterHeader { ch with a2a := ch.a1t } h lo hi (isIndirect ch)) } := by
  have hheader := Bus.hdmaHeader_of_headerAt (b := b.withChannel c { ch with a2a := ch.a1t }) (init := true)
    (Eight.get_set_self ..) (Bool.and_true _) ht
  rw [Bus.hdmaInit, hch, hheader, Bus.withChannel, Eight.set_set]
  rfl

/-! Reading a header keeps what was carried. -/

/-- The stores and the WRAM pointer are as before. -/
structure Bus.StoresKept (b b' : Bus) : Prop where
  wramPtr : b'.wramPtr = b.wramPtr
  wram : b'.wram = b.wram
  sram : b'.sram = b.sram

theorem Bus.hdmaPointer_storesKept (c : BitVec 3) (b : Bus) : b.StoresKept (b.hdmaPointer c) := by
  rw [Bus.hdmaPointer, Bus.readA_bus, Bus.readA_bus]
  exact ⟨rfl, rfl, rfl⟩

theorem Bus.hdmaHeader_storesKept (c : BitVec 3) (init : Bool) (b : Bus) : b.StoresKept (b.hdmaHeader c init) := by
  rw [Bus.hdmaHeader, Bus.readA_bus]
  split
  · obtain ⟨hptr, hwram, hsram⟩ := Bus.hdmaPointer_storesKept c (({ b with latch := (b.readA _).v } : Bus).withChannel c _)
    exact ⟨hptr, hwram, hsram⟩
  · exact ⟨rfl, rfl, rfl⟩

/-! A unit. -/

/-- The channel when `k` bytes of a unit have been moved (60_exceptions.md R441). -/
def Channel.advanced (ch : Channel) (k : Nat) : Channel :=
  if isIndirect ch then { ch with das := ch.das + BitVec.ofNat 16 k } else { ch with a2a := ch.a2a + BitVec.ofNat 16 k }

theorem afterUnit_eq_advanced (ch : Channel) : afterUnit ch = ch.advanced (unitLength ch) := rfl

/-- A unit moves an address and leaves every other register. -/
theorem Channel.advanced_eq (ch : Channel) (k : Nat) :
    ch.advanced k = { ch with das := (ch.advanced k).das, a2a := (ch.advanced k).a2a } := by
  unfold Channel.advanced
  split <;> rfl

theorem isIndirect_advanced (ch : Channel) (k : Nat) : isIndirect (ch.advanced k) = isIndirect ch := by
  rw [Channel.advanced_eq]
  rfl

theorem Channel.advanced_zero (ch : Channel) : ch.advanced 0 = ch := by
  unfold Channel.advanced
  split <;> simp

theorem Channel.advanced_succ (ch : Channel) (k : Nat) : (ch.advanced 1).advanced k = ch.advanced (k + 1) := by
  rw [Channel.advanced, isIndirect_advanced]
  unfold Channel.advanced
  split <;> simp only [add_ofNat_succ _ k] <;> rfl

theorem unitAddr_advanced (ch : Channel) (k : Nat) : unitAddr (ch.advanced 1) k = unitAddr ch (k + 1) := by
  rw [unitAddr, isIndirect_advanced]
  unfold Channel.advanced unitAddr tableAddr
  split <;> simp only [add_ofNat_succ _ k] <;> rfl

/-- One byte of a unit, from or to its address on the A-bus. -/
theorem Bus.hdmaByte_eq (c : BitVec 3) (b : Bus) (off : Byte) :
    Bus.hdmaByte c b off = (b.moveByte (b.dma.get c).toA (unitAddr (b.dma.get c) 0) ((b.dma.get c).bbad + off)).withChannel c
      ((b.dma.get c).advanced 1) := by
  have h0 (v : Word) : v + BitVec.ofNat 16 0 = v := BitVec.add_zero v
  unfold Bus.hdmaByte Channel.advanced unitAddr tableAddr
  simp only [h0]
  cases h : isIndirect (b.dma.get c) with
  | true => exact if_pos h
  | false => exact if_neg (ne_true_of_eq_false h)

theorem Bus.hdmaByte_dma (c : BitVec 3) (b : Bus) (off : Byte) :
    (Bus.hdmaByte c b off).dma = b.dma.set c ((b.dma.get c).advanced 1) := by
  rw [Bus.hdmaByte_eq, Bus.withChannel, (b.moveByte_dmaKeeps _ _ _).dma]

theorem Bus.hdmaBytes_dma (c : BitVec 3) (offs : List Byte) :
    ∀ b : Bus, (offs.foldl (Bus.hdmaByte c) b).dma = b.dma.set c ((b.dma.get c).advanced offs.length) := by
  induction offs with
  | nil =>
    intro b
    rw [List.foldl_nil, List.length_nil, Channel.advanced_zero, Eight.set_get_self]
  | cons off offs ih =>
    intro b
    rw [List.foldl_cons, ih, Bus.hdmaByte_dma, Eight.get_set_self, Eight.set_set, Channel.advanced_succ, List.length_cons]

theorem Bus.hdmaUnit_dma (c : BitVec 3) (b : Bus) : (b.hdmaUnit c).dma = b.dma.set c (afterUnit (b.dma.get c)) :=
  Bus.hdmaBytes_dma c _ b

theorem unitLength_le (ch : Channel) : unitLength ch ≤ 4 := by
  have hpatterns : ∀ mode : BitVec 3, (dmaPattern mode).length ≤ 4 := by decide
  exact hpatterns _

/-- One byte of a unit carried from ROM to WMDATA. -/
theorem Bus.hdmaByte_carries {c : BitVec 3} {b : Bus} {j : Nat} (htoA : (b.dma.get c).toA = false)
    (hport : (b.dma.get c).bbad = 0x80) (hj : aBusTarget b.cfg b.cart (unitAddr (b.dma.get c) 0) = .rom j) :
    b.CarriesByte (Bus.hdmaByte c b 0) j := by
  rw [Bus.hdmaByte_eq, htoA, hport]
  exact (Bus.moveByte_carries hj).withChannel _ _

/-- A unit whose offsets are all 0, all of its bytes in ROM. -/
theorem Bus.hdmaBytes_carry {c : BitVec 3} (offs : List Byte) : ∀ {b : Bus}, b.StoresWf → (b.dma.get c).toA = false →
    (b.dma.get c).bbad = 0x80 → (∀ o ∈ offs, o = 0) → offs.length ≤ 4 → inRom b offs.length (unitAddr (b.dma.get c)) →
    CarriedToWram b (offs.foldl (Bus.hdmaByte c) b) offs.length (unitAddr (b.dma.get c)) := by
  induction offs with
  | nil => exact fun {b} _ _ _ _ _ _ => carriedToWram_zero b _
  | cons off offs ih =>
    intro b w htoA hport hoffs hlen hrom
    obtain ⟨rfl, hzero⟩ := List.forall_mem_cons.mp hoffs
    rw [List.length_cons] at hlen hrom ⊢
    obtain ⟨j, hj⟩ := hrom 0 (Nat.succ_pos _)
    have hbyte := Bus.hdmaByte_carries htoA hport hj
    have hch : (Bus.hdmaByte c b 0).dma.get c = (b.dma.get c).advanced 1 := by rw [Bus.hdmaByte_dma, Eight.get_set_self]
    have hsource : unitAddr ((Bus.hdmaByte c b 0).dma.get c) = fun k => unitAddr (b.dma.get c) (k + 1) := by
      funext k
      rw [hch, unitAddr_advanced]
    have hrest := ih (b := Bus.hdmaByte c b 0) ((b.hdmaByte_keeps c 0).storesWf w) (by rw [hch, Channel.advanced_eq]; exact htoA)
      (by rw [hch, Channel.advanced_eq]; exact hport) hzero (Nat.le_of_succ_le hlen) fun k hk => by
        rw [hsource, hbyte.cfg, hbyte.cart]
        exact hrom (k + 1) (Nat.succ_lt_succ hk)
    rw [hsource] at hrest
    exact carriedToWram_cons w (by omega) hj hbyte hrest

/-! A line. -/

/-- A line's bus when its unit has been moved, if the channel transfers. -/
def Bus.hdmaTransfer (c : BitVec 3) (b : Bus) : Bus := if (b.dma.get c).doTransfer then b.hdmaUnit c else b

/-- A line's bus when its counter has been counted down. -/
def Bus.hdmaCounted (c : BitVec 3) (b : Bus) : Bus := (b.hdmaTransfer c).withChannel c (counted (b.dma.get c))

theorem Bus.hdmaTransfer_of_not {c : BitVec 3} {b : Bus} (h : (b.dma.get c).doTransfer = false) : b.hdmaTransfer c = b :=
  if_neg (ne_true_of_eq_false h)

theorem Bus.hdmaTransfer_of_transfer {c : BitVec 3} {b : Bus} (h : (b.dma.get c).doTransfer = true) :
    b.hdmaTransfer c = b.hdmaUnit c := if_pos h

theorem Bus.hdmaTransfer_dma (c : BitVec 3) (b : Bus) :
    (b.hdmaTransfer c).dma = b.dma.set c (afterTransfer (b.dma.get c)) := by
  unfold Bus.hdmaTransfer afterTransfer
  split
  · exact b.hdmaUnit_dma c
  · rw [Eight.set_get_self]

theorem Bus.hdmaTransfer_keeps (c : BitVec 3) (b : Bus) : b.Keeps (b.hdmaTransfer c) := .ite (b.hdmaUnit_keeps c) (.refl b)

theorem Bus.hdmaCounted_dma (c : BitVec 3) (b : Bus) : (b.hdmaCounted c).dma = b.dma.set c (counted (b.dma.get c)) := by
  rw [Bus.hdmaCounted, Bus.withChannel, Bus.hdmaTransfer_dma, Eight.set_set]

theorem Bus.hdmaCounted_get (c : BitVec 3) (b : Bus) : (b.hdmaCounted c).dma.get c = counted (b.dma.get c) :=
  Eight.get_set_self ..

/-- A unit leaves the line counter. -/
theorem afterTransfer_ntrl (ch : Channel) : (afterTransfer ch).ntrl = ch.ntrl := by
  unfold afterTransfer
  split
  · rw [afterUnit_eq_advanced, Channel.advanced_eq]
  · rfl

theorem isIndirect_counted (ch : Channel) : isIndirect (counted ch) = isIndirect ch := by
  change isIndirect (afterTransfer ch) = _
  unfold afterTransfer
  split
  · exact isIndirect_advanced ch _
  · rfl

/-- A line transfers, counts, and where it finishes the entry reads the next header (60_exceptions.md R441). -/
theorem Bus.hdmaLine_eq (c : BitVec 3) (b : Bus) :
    b.hdmaLine c =
      if (b.dma.get c).ntrl - 1 &&& 0x7F == 0 then (b.hdmaCounted c).hdmaHeader c false else b.hdmaCounted c := by
  have hget : (b.hdmaTransfer c).dma.get c = afterTransfer (b.dma.get c) := by rw [Bus.hdmaTransfer_dma, Eight.get_set_self]
  have htransfer : (if (b.dma.get c).doTransfer then b.hdmaUnit c else b) = b.hdmaTransfer c := rfl
  simp only [Bus.hdmaLine, htransfer, hget, afterTransfer_ntrl]
  rfl

theorem Bus.hdmaLine_of_not_finishes {c : BitVec 3} {b : Bus} (h : ¬finishes (b.dma.get c)) : b.hdmaLine c = b.hdmaCounted c := by
  rw [Bus.hdmaLine_eq]
  exact if_neg fun e => h (eq_of_beq e)

theorem Bus.hdmaLine_of_finishes {c : BitVec 3} {b : Bus} (h : finishes (b.dma.get c)) :
    b.hdmaLine c = (b.hdmaCounted c).hdmaHeader c false := by
  rw [Bus.hdmaLine_eq]
  exact if_pos (beq_iff_eq.mpr h)

/-- After its unit a line leaves the stores and the WRAM pointer. -/
theorem Bus.hdmaLine_storesKept (c : BitVec 3) (b : Bus) : (b.hdmaTransfer c).StoresKept (b.hdmaLine c) := by
  rw [Bus.hdmaLine_eq]
  split
  · obtain ⟨hptr, hwram, hsram⟩ := Bus.hdmaHeader_storesKept c false (b.hdmaCounted c)
    exact ⟨hptr, hwram, hsram⟩
  · exact ⟨rfl, rfl, rfl⟩

/-- The line that reads the next header from stores (60_exceptions.md R441). -/
theorem Bus.hdmaLine_of_headerAt {c : BitVec 3} {b : Bus} {h lo hi : Byte} {pointer : Bool} (hfinishes : finishes (b.dma.get c))
    (hp : (isIndirect (b.dma.get c) && decide (h ≠ 0)) = pointer)
    (ht : headerAt (b.hdmaTransfer c) (afterTransfer (b.dma.get c)) h lo hi pointer) :
    b.hdmaLine c = { b.hdmaTransfer c with
      latch := if pointer then hi else h
      dma := b.dma.set c (afterHeader (afterTransfer (b.dma.get c)) h lo hi pointer) } := by
  have hpointer : (counted (b.dma.get c)).pointerAfter false h = pointer := by
    rw [Channel.pointerAfter, isIndirect_counted, Bool.false_or, hp]
  rw [Bus.hdmaLine_of_finishes hfinishes, Bus.hdmaHeader_of_headerAt (b.hdmaCounted_get c) hpointer ht, Bus.hdmaCounted_dma,
    Eight.set_set]
  rfl

/-- The HDMA phase in the statements' words (60_exceptions.md R441). -/
theorem Bus.hdmaLines_eq (b : Bus) : b.hdmaLines = (List.range 8).foldl (fun t k =>
    if t.plat.hdmaen.getLsbD k = true ∧ (t.dma.get (BitVec.ofNat 3 k)).terminated = false then
      t.hdmaLine (BitVec.ofNat 3 k)
    else t) b := by
  rw [Bus.hdmaLines, foldl_channels]
  refine List.foldl_ext _ _ _ fun t k hk => ?_
  simp only [toNat_ofNat_of_mem_range hk, Bool.and_eq_true, Bool.not_eq_true']

theorem Bus.hdmaLines_of_none {b : Bus} (h : ∀ k, b.plat.hdmaen.getLsbD k.toNat = false ∨ (b.dma.get k).terminated = true) :
    b.hdmaLines = b := by
  refine List.foldl_fixed' (fun k => if_neg ?_) channels
  obtain h | h := h k <;> simp [h]

theorem Bus.write_hdmaen (b : Bus) {bank : Byte} (hb : isSystemBank bank) (v : Byte) : b.write (mkAddr bank 0x420C) v =
    ({ b with latch := v, plat := { b.plat with hdmaen := v } } : Bus).hdmaInitMask v := by
  have target : busTarget b.cfg b.cart (mkAddr bank 0x420C) = .platform 0x0C := busTarget_platform _ _ hb (by decide)
  rw [Bus.write, target]
  rfl

end Sys2Proof.Machine

namespace Sys2Proof.Proofs
open Sys2Proof.Machine Sys2Proof.Claims

/-- Settles O60: headers as the A-bus reads them, units by induction over the pattern, and a line as transfer, count and reload. -/
theorem hdmaLines : Obligations.HdmaLines := by
  intro b c ch
  refine ⟨fun h lo hi ht => Bus.hdmaInit_of_headerAt rfl ht, fun bank v hb => ?hdmaen, fun hidle hcount => ?idle,
    fun hmoves hcount => ?moves, fun h lo hi hidle hfinish ht => ?idleReload, fun h lo hi hmoves hfinish hrom ht => ?movesReload,
    fun w hmoves htoA hport hoffs hrom => ?carried, b.hdmaLines_eq, Bus.hdmaLines_of_none,
    rfl, rfl, rfl, rfl, rfl, rfl, rfl, rfl⟩
  case hdmaen => rw [b.write_hdmaen hb, Bus.hdmaInitMask_eq_onSelected]
  case idle => rw [Bus.hdmaLine_of_not_finishes hcount, Bus.hdmaCounted, Bus.hdmaTransfer_of_not hidle]; rfl
  case moves => rw [Bus.hdmaLine_of_not_finishes hcount, Bus.hdmaCounted_dma]
  case idleReload =>
    have hsame : afterTransfer ch = ch := if_neg (ne_true_of_eq_false hidle)
    have hline := Bus.hdmaLine_of_headerAt (b := b) (h := h) (lo := lo) (hi := hi) hfinish rfl
    rw [Bus.hdmaTransfer_of_not hidle, hsame] at hline
    exact hline ht
  case movesReload =>
    have hunit : afterTransfer ch = afterUnit ch := if_pos hmoves
    have hline := Bus.hdmaLine_of_headerAt (b := b) (h := h) (lo := lo) (hi := hi) hfinish rfl
    have keeps := b.hdmaTransfer_keeps c
    rw [hunit] at hline
    rw [hline (headerAt_of_inRom keeps.cfg keeps.cart hrom ht)]
  case carried =>
    obtain ⟨hptr, hwram, hsram⟩ := b.hdmaLine_storesKept c
    rw [Bus.hdmaTransfer_of_transfer hmoves] at hptr hwram hsram
    exact carriedToWram_congr (Bus.hdmaBytes_carry _ w htoA hport hoffs (unitLength_le ch) hrom) hptr hwram hsram

end Sys2Proof.Proofs
end
